-- ==== Sys2Proof/Word.lean ====
section
/-! DEFINITION. The widths of the PICO-IIDX core's words: spec/00_scope.md R9, spec/10_state.md R40,
spec/30_encoding.md R80 and R90. Bit 0 is the least significant bit (R11). -/

namespace Sys2Proof

/-- A command word: "exactly 64 bits" (R80). -/
abbrev CommandWord := BitVec 64

/-- A sample, u12: the raw sample, the filtered sample, a range bound (R9, R40). -/
abbrev Sample := BitVec 12

/-- The running sum of the window, u20 (R25, R40). -/
abbrev Sum := BitVec 20

/-- A report byte, the mapped axis byte, a u8 (R9, R40). -/
abbrev Byte := BitVec 8

/-- The electrical levels of the 11 button lines, button i at bit i (R41, R90). -/
abbrev Level := BitVec 11

/-- A u9: an angle (R9), an `outmin` or `outmax` operand (R84), a mapped value. -/
abbrev U9 := BitVec 9

/-- A timestamp or an elapsed time in milliseconds, u32 (R9, R40). -/
abbrev Millis := BitVec 32

/-- The net displacement in degrees, s16: two's complement (R86, R90, R160). -/
abbrev Disp := BitVec 16

end Sys2Proof
end

