-- ==== Sys2Proof/Config.lean ====
section
/-! DEFINITION. The configuration record `cfg`: spec/00_scope.md R8 to R10, spec/10_state.md R20 and R21.
The names of fields and values are the spec's own. Which records are legal is Machine/ConfigRules.lean.
The spec leaves no value undefined (spec/93_implementation_defined.md), so this file holds no free value: an OPEN
parameter of R8 is a field of the record, and a claim quantifies over it. -/

namespace Sys2Proof

/-- Buttons of the core, indices 0..10 (R9). -/
abbrev numButtons : Nat := 11

/-- Keyboard rollover slots (R9). -/
abbrev rolloverSlots : Nat := 6

/-- Filter stages (R8). -/
inductive Stages where
  | MA_ONLY
  | MA_DEADBAND
  deriving DecidableEq, Repr

/-- How the window is filled at the first sample (R8, R112). -/
inductive Warmup where
  | PREFILL
  | ZEROFILL
  deriving DecidableEq, Repr

/-- Bound policy of the range calibrator (R8, R131, R132). -/
inductive CalPolicy where
  | EXPANDING
  | WRAP_HYST
  deriving DecidableEq, Repr

/-- Initial calibration range (R8). -/
inductive CalInit where
  | UNSET
  | PRESET (lo hi : Nat)
  deriving DecidableEq, Repr

/-- Map rounding (R8, R141, R142). -/
inductive Rounding where
  | TRUNC
  | HALF_AWAY
  deriving DecidableEq, Repr

/-- The two named presets of R10. -/
inductive Preset where
  | PRECISE
  | SIMPLE
  deriving DecidableEq, Repr

/-- The configuration record of R8. Numbers are unbounded naturals, so that a record illegal by R21 can be written
and refused. A chord is the list of its button indices. (DESIGN CHOICE, log 8.) -/
structure CfgRecord where
  STAGES : Stages
  K : Nat
  THRESH : Nat
  WARMUP : Warmup
  CAL_POLICY : CalPolicy
  CAL_INIT : CalInit
  D : Nat
  ROUNDING : Rounding
  N : Nat
  GATE_EN : Bool
  MIN_SPEED_NUM : Nat
  MIN_SPEED_DEN : Nat
  CHORD_GP : List Nat
  CHORD_KB : List Nat
  CHORD_CAL : List Nat
  KEYCODE : List Nat
  deriving DecidableEq, Repr

/-- The record `cfg` holds before the first CONFIGURE that accepts: R8's value for this hardware where R8 gives one,
else the first or least value R21 allows. No operation reads it then, since every word but CONFIGURE is refused
(R236). (DESIGN CHOICE, unsafe by the rule for reset values, log 4. Not the hardware's values: R8 calls them OPEN.) -/
def CfgRecord.powerOn : CfgRecord where
  STAGES := .MA_ONLY
  K := 8
  THRESH := 5
  WARMUP := .PREFILL
  CAL_POLICY := .EXPANDING
  CAL_INIT := .UNSET
  D := 4
  ROUNDING := .TRUNC
  N := 32
  GATE_EN := false
  MIN_SPEED_NUM := 0
  MIN_SPEED_DEN := 1
  CHORD_GP := [1, 7, 10]
  CHORD_KB := [0, 1, 2]
  CHORD_CAL := [0, 1, 3]
  KEYCODE := [1, 1, 1, 1, 1, 1, 1, 1, 1, 1, 1]

end Sys2Proof
end

