-- ==== Sys2Proof/Machine/ConfigRules.lean ====
section
/-! DEFINITION. Which configuration records are legal (spec/10_state.md R21) and the two presets (spec/00_scope.md
R10). -/

namespace Sys2Proof

/-- "a set of exactly 3 distinct button indices in 0..10" (R21). -/
def chordLegal (c : List Nat) : Bool :=
  c.length == 3 && c.all (· < numButtons) && decide c.Nodup

/-- Equality of two chords as sets (R21); the order a chord is written in does not matter (log 8). -/
def chordSameSet (a b : List Nat) : Bool :=
  a.all (b.contains ·) && b.all (a.contains ·)

/-- The CAL_INIT row of R21. -/
def calInitLegal : CalInit → Bool
  | .UNSET => true
  | .PRESET lo hi => decide (lo ≤ hi) && decide (hi ≤ 4095)

/-- "The configuration record is legal only when every field is in the range below" (R21), row by row; the rows of
two-valued fields hold by type. -/
def cfgLegal (c : CfgRecord) : Bool :=
  decide (1 ≤ c.K) && decide (c.K ≤ 255)
  && decide (c.THRESH ≤ 4095)
  && calInitLegal c.CAL_INIT
  && decide (c.D ≤ 127)
  && decide (2 ≤ c.N) && decide (c.N ≤ 64)
  && decide (c.MIN_SPEED_NUM < 2 ^ 32)
  && decide (1 ≤ c.MIN_SPEED_DEN) && decide (c.MIN_SPEED_DEN < 2 ^ 32)
  && chordLegal c.CHORD_GP && chordLegal c.CHORD_KB && chordLegal c.CHORD_CAL
  && !chordSameSet c.CHORD_GP c.CHORD_KB
  && !chordSameSet c.CHORD_GP c.CHORD_CAL
  && !chordSameSet c.CHORD_KB c.CHORD_CAL
  && c.KEYCODE.length == numButtons
  && c.KEYCODE.all (fun k => decide (1 ≤ k) && decide (k ≤ 255))

/-- A preset "fixes only these two fields" (R10). -/
def applyPreset (p : Preset) (c : CfgRecord) : CfgRecord :=
  match p with
  | .PRECISE => { c with ROUNDING := .HALF_AWAY, GATE_EN := true }
  | .SIMPLE => { c with ROUNDING := .TRUNC, GATE_EN := false }

end Sys2Proof
end

