-- ==== Sys2Proof/Syntax.lean ====
section
/-! DEFINITION. The twelve operations with their operands (spec/30_encoding.md R81 to R90), one constructor per row of
spec/opcode_table.json, and the command the host issues: a word and the side record of R89. Operand fields have
their encoded widths; the range checks of R90 are WellFormed's and the operations' own. -/

namespace Sys2Proof

/-- One operation of the block (R3, R81). -/
inductive Instr where
  /-- One pass of the control loop (R230). -/
  | tick (raw : Sample) (level : Level) (now : Millis) (rdy_gp rdy_kb : Bool)
  /-- Condition one raw sample (R110). -/
  | filter (raw : Sample)
  /-- Update the bounds with one conditioned sample (R130). -/
  | calObserve (filtered : Sample)
  /-- Clamped linear rescale (R140). -/
  | calMap (value : Sample) (outMin outMax : U9)
  /-- Set the range to one sample (R145). -/
  | calReset (sample : Sample)
  /-- Append one angle sample and compute the velocity (R160). -/
  | velPush (angle : U9) (ts : Millis)
  /-- Clear the angle history (R166). -/
  | velClear
  /-- Decide whether the candidate axis is published (R180). -/
  | gateAccept (cand : Byte) (dth : Disp) (dt : Millis)
  /-- One step of the mode state machine (R192). -/
  | modeStep (level : Level)
  /-- Assemble the report (R210). -/
  | buildReport (level : Level)
  /-- Construct the block with a configuration record (R235). -/
  | configure (newcfg : CfgRecord)
  /-- Power-on reset of the state (R237). -/
  | por
  deriving DecidableEq, Repr

/-- What the host issues: a 64-bit command word, and beside it the record that only CONFIGURE reads (R80, R89). -/
structure Command where
  word : CommandWord
  side : CfgRecord
  deriving DecidableEq, Repr

end Sys2Proof
end

