-- ==== Sys2Proof/Machine/Operands.lean ====
section
/-! DEFINITION. Operand assembly (spec/30_encoding.md R90) and the ButtonSampler (spec/44_mode_controller.md R190,
R191): what an operand's bits stand for. Fields are taken out of the word in Decode.lean; no immediate is scaled. -/

namespace Sys2Proof

/-- `zext_n`: the unsigned value of an operand field (R12, R90). -/
abbrev zext (n : Nat) (v : BitVec n) : Nat := v.toNat

/-- `sext_16` of the displacement operand: its two's-complement value (R12, R90). -/
abbrev sext (v : Disp) : Int := v.toInt

/-- `pressed[i] = (level[i] = 0)` for i in 0..10: "a button is pressed when its line is electrically low" (R190). -/
def pressed (level : Level) (i : Nat) : Bool :=
  decide (i < numButtons) && !level.getLsbD i

/-- The pressed buttons, in increasing index order (R190, R212). -/
def pressedButtons (level : Level) : List Nat :=
  (List.range numButtons).filter (pressed level)

/-- A chord predicate: "all three of its buttons are pressed, whatever else is pressed" (R191, D20). -/
def chordHeld (level : Level) (chord : List Nat) : Bool :=
  chord.all (pressed level)

/-- `outmin ≤ outmax` (R90). -/
def mapRangeOk (outMin outMax : U9) : Bool := decide (zext 9 outMin ≤ zext 9 outMax)

/-- `angle` is in 0..359 (R90). -/
def angleOk (angle : U9) : Bool := decide (zext 9 angle < 360)

/-- The operand ranges of R90, which only two operations have. -/
def operandsInRange : Instr → Bool
  | .tick _ _ _ _ _ => true
  | .filter _ => true
  | .calObserve _ => true
  | .calMap _ outMin outMax => mapRangeOk outMin outMax
  | .calReset _ => true
  | .velPush angle _ => angleOk angle
  | .velClear => true
  | .gateAccept _ _ _ => true
  | .modeStep _ => true
  | .buildReport _ => true
  | .configure _ => true
  | .por => true

end Sys2Proof
end

