-- ==== Sys2Proof/Machine/State.lean ====
section
/-! DEFINITION. The state of the block (spec/10_state.md R20 to R45), what an operation drives or returns (R42,
spec/46_tick_and_control.md R238, R242), and the reasons a word is refused (spec/60_exceptions.md R251). Registers
carry the spec's names, grouped by component as R14 groups them. -/

namespace Sys2Proof.Machine

/-- The OperatingMode: Gamepad = 0, Keyboard = 1 (R33). -/
inductive Mode where
  | Gamepad
  | Keyboard
  deriving DecidableEq, Repr

/-- The result of MODE_STEP (R192). -/
inductive Action where
  | NONE
  | TO_GP
  | TO_KB
  | CAL
  deriving DecidableEq, Repr

/-- The condition codes "for a model's trace" (R250): names, not state of the block. -/
inductive Condition where
  /-- `c_min = c_max`, or the range unset, at a MAPF. -/
  | DEGEN_RANGE
  /-- `dt = 0` after VEL_PUSH. -/
  | DT_ZERO
  deriving DecidableEq, Repr

/-- The two payloads of the OutgoingReport: `gp_bytes[0..2]` and `kb_bytes[0..5]` (R210, R215). -/
structure Report where
  gp_bytes : List Byte
  kb_bytes : List Byte
  deriving DecidableEq, Repr

/-- The output ports of TICK (R42): the payloads are driven whether or not their strobe is 1. -/
structure Ports where
  sub_gp : Bool
  gp_bytes : List Byte
  sub_kb : Bool
  kb_bytes : List Byte
  deriving DecidableEq, Repr

/-- What an accepted operation drove (TICK) or returned (a standalone operation): R242. -/
inductive Output where
  | tick (ports : Ports)
  | filter (f_stable : Sample)
  | calObserve (c_min c_max : Sample)
  | calMap (mapped : U9)
  | calReset
  | velPush (dth : Disp) (dt : Millis) (dvalid : Bool)
  | velClear
  | gateAccept (accepted : Bool)
  | modeStep (action : Action)
  | buildReport (report : Report)
  | configure
  | por
  deriving DecidableEq, Repr

/-- One line of the trace: an accepted operation's output, and the conditions of R250 met in it. -/
structure Event where
  output : Output
  conditions : List Condition
  deriving DecidableEq, Repr

/-- SampleFilter registers (R23 to R27). -/
structure FilterRegs where
  f_buf : List Sample
  f_cur : Byte
  f_sum : Sum
  f_seeded : Bool
  f_stable : Sample
  deriving DecidableEq, Repr

/-- RangeCalibrator registers (R28 to R30). -/
structure CalRegs where
  c_set : Bool
  c_min : Sample
  c_max : Sample
  c_prev : Byte
  c_prev_valid : Bool
  deriving DecidableEq, Repr

/-- VelocityEstimator registers, newest pair at index 0 (R31). -/
structure HistRegs where
  h_angle : List U9
  h_ts : List Millis
  deriving DecidableEq, Repr

/-- ModeController registers (R33, R34). -/
structure ModeRegs where
  m_mode : Mode
  m_latch : Bool
  deriving DecidableEq, Repr

/-- A run-time fault: there is none, "nothing in this core is fatal" (R250). The type has no constructor, so no step
can answer a fault; safe or unsafe does not arise. (log 10) -/
inductive Fault where
  deriving DecidableEq, Repr

/-- Why a word is refused (R251). The first constructor is the host's; the others are the spec's reason codes. -/
inductive Refusal where
  /-- An operation without a meaning, raised by exec's arm of that name; no arm of this model raises it. Safe. -/
  | notModelled (mnemonic : String)
  /-- UNCONFIGURED: any operation but CONFIGURE while `configured` is false (R236), raised by each such operation.
  Safe: the spec refuses it. -/
  | unconfigured
  /-- RESERVED_OP: op in 0xA..0xD (R91), raised by step on decoding. Safe: the spec refuses it. -/
  | reservedOp
  /-- RESERVED_BITS: a reserved bit of the format is 1 (R91), raised by step on decoding. Safe: the spec refuses it. -/
  | reservedBits
  /-- OPERAND_RANGE: CAL_MAP with outmin > outmax, or VEL_PUSH with angle ≥ 360 (R90), raised by those operations.
  Safe: the spec refuses it. -/
  | operandRange
  /-- BAD_CONFIG: CONFIGURE with a record illegal by R21 (R235), raised by CONFIGURE. Safe: the spec refuses it. -/
  | badConfig
  deriving DecidableEq, Repr

/-- The state of the block, and after it the model's own two interface fields. -/
structure State where
  /-- The configuration record, "read-only after CONFIGURE" (R8, R20, R235; log 3). -/
  cfg : CfgRecord
  /-- "a legal configuration has been accepted" (R35). -/
  configured : Bool
  /-- SampleFilter (R23 to R27). -/
  flt : FilterRegs
  /-- RangeCalibrator (R28 to R30). -/
  cal : CalRegs
  /-- VelocityEstimator (R31). -/
  hist : HistRegs
  /-- ReportGate: "the previously published axis value" (R32). -/
  g_axis : Byte
  /-- ModeController (R33, R34). -/
  mode : ModeRegs
  /-- The model's own: words issued by the host and not yet taken, the next first (log 1). -/
  inbox : List Command
  /-- The model's own: what each accepted operation drove or returned, oldest first; nothing reads it (log 2). -/
  trace : List Event
  deriving DecidableEq, Repr

/-- Power-on, before any CONFIGURE: `configured` false (R45), every element at its value of R45 for the record held
(log 4, log 5), no word issued and nothing driven. -/
def State.reset : State where
  cfg := .powerOn
  configured := false
  flt :=
    { f_buf := [0, 0, 0, 0, 0, 0, 0, 0]
      f_cur := 0
      f_sum := 0
      f_seeded := false
      f_stable := 0 }
  cal := { c_set := false, c_min := 0, c_max := 0, c_prev := 0, c_prev_valid := false }
  hist := { h_angle := List.replicate 32 0, h_ts := List.replicate 32 0 }
  g_axis := 0
  mode := { m_mode := .Gamepad, m_latch := false }
  inbox := []
  trace := []

end Sys2Proof.Machine
end

