-- ==== Sys2Proof/Machine/Flags.lean ====
section
/-! DEFINITION. The block has "no arithmetic condition codes" (spec/10_state.md R37): its flags are `f_seeded`, `c_set`,
`c_prev_valid`, `m_latch` and `configured`. Here stand the latch's next value and the conditions of
spec/60_exceptions.md R250. The flags written to a constant are written by the operations that name them. -/

namespace Sys2Proof.Machine

/-- The three chord predicates of a tick (R191). -/
structure Chords where
  toGamepad : Bool
  toKeyboard : Bool
  toCalibrate : Bool
  deriving DecidableEq, Repr

/-- The chord predicates from the levels and the configured triples (R191). -/
def chordsOf (cfg : CfgRecord) (level : Level) : Chords where
  toGamepad := chordHeld level cfg.CHORD_GP
  toKeyboard := chordHeld level cfg.CHORD_KB
  toCalibrate := chordHeld level cfg.CHORD_CAL

/-- `g or k or c` (R192). -/
def anyChord (c : Chords) : Bool := c.toGamepad || c.toKeyboard || c.toCalibrate

/-- `m_latch` after MODE_STEP (R195): set when an action fires, cleared only when none of the three chords is true
(R196), otherwise unchanged. -/
def nextLatch (c : Chords) (m_latch : Bool) : Bool :=
  if anyChord c && !m_latch then true
  else if !anyChord c then false
  else m_latch

/-- The DEGEN_RANGE condition of a MAPF: "`c_min = c_max`, or the range unset" (R143, R250). -/
def degenRange (cal : CalRegs) : Bool := !cal.c_set || cal.c_min == cal.c_max

/-- `dvalid <- (dt != 0)` (R160, R165). -/
def dvalidOf (dt : Millis) : Bool := decide (dt ≠ 0)

/-- A condition's line in the trace when it holds (R250). -/
def condWhen (holds : Bool) (c : Condition) : List Condition := if holds then [c] else []

end Sys2Proof.Machine
end

