-- ==== Sys2Proof/Machine/Ops.lean ====
section
/-! DEFINITION. Operations shared by the meanings: the numeric primitives of spec/00_scope.md R12, the map function of
spec/41_range_calibrator.md R140, and the one way an operation is admitted or refused (spec/60_exceptions.md R251, R252).
The block has no memory (spec/20_memory.md R60) and takes no exception (R250, R255), so there is no memory operation and
no trap entry or return here. Numbers are computed exactly and narrowed to the register's width where they are written
(R11; log 11). -/

namespace Sys2Proof.Machine

/-- `clamp(v, lo, hi)` is `min(max(v, lo), hi)` (R12). -/
def clamp (v lo hi : Nat) : Nat := min (max v lo) hi

/-- `RHA(n, d)`: n/d rounded half away from zero, by R12's two formulas (`/` on Int is floor for a positive divisor). -/
def rha (n d : Int) : Int :=
  if 0 ≤ n then (2 * n + d) / (2 * d) else -((-2 * n + d) / (2 * d))

/-- `MAPF(v, lo, hi)` for `lo ≤ hi` (R140 to R143). -/
def mapf (rounding : Rounding) (cal : CalRegs) (v lo hi : Nat) : Nat :=
  if degenRange cal then lo
  else
    let c_min := zext 12 cal.c_min
    let c_max := zext 12 cal.c_max
    let vc := clamp v c_min c_max
    let span := c_max - c_min
    match rounding with
    | .TRUNC => lo + (vc - c_min) * (hi - lo) / span
    | .HALF_AWAY => (rha (((vc - c_min) * (hi - lo) + lo * span : Nat) : Int) (span : Int)).toNat

/-- The mapped axis byte of a sample: `MAPF(s, 0, 255)` (R132, R135, R230). -/
def mappedByte (rounding : Rounding) (cal : CalRegs) (s : Sample) : Byte :=
  BitVec.ofNat 8 (mapf rounding cal (zext 12 s) 0 255)

/-- The angle of a sample: `MAPF(s, 0, 360) mod 360` (R147). -/
def mappedAngle (rounding : Rounding) (cal : CalRegs) (s : Sample) : U9 :=
  BitVec.ofNat 9 (mapf rounding cal (zext 12 s) 0 360 % 360)

/-- The lower and the higher of two samples (R131). -/
def sampleMin (a b : Sample) : Sample := if zext 12 a ≤ zext 12 b then a else b

/-- See `sampleMin`. -/
def sampleMax (a b : Sample) : Sample := if zext 12 a ≤ zext 12 b then b else a

/-- An array shifted by one with a new element at index 0, its last element lost: `n` slots (R160, R161). -/
def shiftIn {α : Type} (n : Nat) (x : α) (xs : List α) : List α := (x :: xs).take n

/-- An accepted operation's event appended to the trace (log 2). -/
def State.emit (s : State) (output : Output) (conditions : List Condition) : State :=
  { s with trace := s.trace ++ [⟨output, conditions⟩] }

/-- The next command taken from the inbox (log 1). -/
def State.take (s : State) : State := { s with inbox := s.inbox.tail }

/-- Every operation but CONFIGURE: refused while `configured` is false (R236), then refused if an operand is out of
range (R90; the order is R252's), else done, with its event. A refused word changes no state (R92). -/
def perform (s : State) (inRange : Bool) (after : State) (output : Output) (conditions : List Condition) :
    Host.Outcome State Fault Refusal :=
  if s.configured then
    if inRange then .next (after.emit output conditions) else .refused .operandRange
  else .refused .unconfigured

end Sys2Proof.Machine
end

