-- ==== Sys2Proof/Machine/Filter.lean ====
section
/-! DEFINITION. SampleFilter: FILTER (spec/40_sample_filter.md R110 to R116). -/

namespace Sys2Proof.Machine

/-- The window, the cursor and the sum after one sample (R111, R112). The other registers are unchanged. -/
def filterWindow (cfg : CfgRecord) (f : FilterRegs) (raw : Sample) : FilterRegs :=
  if !f.f_seeded && cfg.WARMUP == .PREFILL then
    { f with
      f_buf := List.replicate cfg.K raw
      f_sum := BitVec.ofNat 20 (cfg.K * zext 12 raw)
      f_cur := 0 }
  else
    { f with
      f_sum := f.f_sum - (f.f_buf.getD f.f_cur.toNat 0).setWidth 20 + raw.setWidth 20
      f_buf := f.f_buf.set f.f_cur.toNat raw
      f_cur := BitVec.ofNat 8 ((f.f_cur.toNat + 1) % cfg.K) }

/-- `stage1 <- f_sum div K` (R111). -/
def stage1 (cfg : CfgRecord) (f : FilterRegs) : Sample := BitVec.ofNat 12 (f.f_sum.toNat / cfg.K)

/-- `abs(a - b)` of two samples (R113). -/
def sampleDist (a b : Sample) : Nat := ((zext 12 a : Int) - (zext 12 b : Int)).natAbs

/-- `f_stable` after one sample: `seeded` and `stable` are the values before it (R113, R114). -/
def nextStable (cfg : CfgRecord) (seeded : Bool) (stable new : Sample) : Sample :=
  if cfg.STAGES == .MA_ONLY || !seeded then new
  else if cfg.THRESH ≤ sampleDist new stable then new
  else stable

/-- FILTER on the filter's registers (R110). -/
def filterRegs (cfg : CfgRecord) (f : FilterRegs) (raw : Sample) : FilterRegs :=
  let w := filterWindow cfg f raw
  { w with
    f_stable := nextStable cfg f.f_seeded f.f_stable (stage1 cfg w)
    f_seeded := true }

/-- FILTER's state write (R110). -/
def State.runFilter (s : State) (raw : Sample) : State :=
  { s with flt := filterRegs s.cfg s.flt raw }

/-- FILTER: returns `f_stable` (R110). -/
def execFilter (raw : Sample) (s : State) : Host.Outcome State Fault Refusal :=
  perform s (operandsInRange (.filter raw)) (s.runFilter raw) (.filter (s.runFilter raw).flt.f_stable) []

end Sys2Proof.Machine
end

