-- ==== Sys2Proof/Machine/Gate.lean ====
section
/-! DEFINITION. ReportGate: GATE_ACCEPT (spec/43_report_gate.md R180 to R185). -/

namespace Sys2Proof.Machine

/-- The gate's decision (R180, R182 to R184), in exact arithmetic. -/
def gateAccepts (cfg : CfgRecord) (dth : Disp) (dt : Millis) : Bool :=
  if !cfg.GATE_EN then true
  else if dt == 0 then false
  else decide (cfg.MIN_SPEED_NUM * zext 32 dt ≤ (sext dth).natAbs * cfg.MIN_SPEED_DEN)

/-- GATE_ACCEPT's state write: `g_axis <- cand` exactly when it accepts (R181). -/
def State.runGate (s : State) (cand : Byte) (dth : Disp) (dt : Millis) : State :=
  { s with g_axis := if gateAccepts s.cfg dth dt then cand else s.g_axis }

/-- GATE_ACCEPT: returns `accepted` (R180). DT_ZERO is traced when the gate acts on it (R250; log 13). -/
def execGateAccept (cand : Byte) (dth : Disp) (dt : Millis) (s : State) : Host.Outcome State Fault Refusal :=
  perform s (operandsInRange (.gateAccept cand dth dt)) (s.runGate cand dth dt)
    (.gateAccept (gateAccepts s.cfg dth dt))
    (condWhen (s.cfg.GATE_EN && dt == 0) .DT_ZERO)

end Sys2Proof.Machine
end

