-- ==== Sys2Proof/Machine/Calibrator.lean ====
section
/-! DEFINITION. RangeCalibrator: CAL_OBSERVE, CAL_MAP, CAL_RESET (spec/41_range_calibrator.md R130 to R147). -/

namespace Sys2Proof.Machine

/-- The expanding bound update, which runs first under both policies (R131). -/
def widen (c : CalRegs) (s : Sample) : CalRegs :=
  if !c.c_set then { c with c_min := s, c_max := s, c_set := true }
  else { c with c_min := sampleMin c.c_min s, c_max := sampleMax c.c_max s }

/-- `(9 * bound + s) div 10` (R134). -/
def reanchored (bound s : Sample) : Sample := BitVec.ofNat 12 ((9 * zext 12 bound + zext 12 s) / 10)

/-- The high zone 255 - D..255, both ends included (R133). -/
def inHighZone (cfg : CfgRecord) (b : Byte) : Bool := decide (255 - cfg.D ≤ zext 8 b)

/-- The low zone 0..D, both ends included (R133). -/
def inLowZone (cfg : CfgRecord) (b : Byte) : Bool := decide (zext 8 b ≤ cfg.D)

/-- The wrap test runs (R130, R132). -/
def wrapTested (cfg : CfgRecord) (c : CalRegs) : Bool := cfg.CAL_POLICY == .WRAP_HYST && c.c_prev_valid

/-- Re-anchoring after the widened bounds `w` by the trial byte (R132 to R134): a downward crossing moves `c_min`, an
upward one `c_max`. -/
def reanchor (cfg : CfgRecord) (w : CalRegs) (s : Sample) : CalRegs :=
  let mt := mappedByte cfg.ROUNDING w s
  if inHighZone cfg w.c_prev && inLowZone cfg mt then { w with c_min := reanchored w.c_min s }
  else if inLowZone cfg w.c_prev && inHighZone cfg mt then { w with c_max := reanchored w.c_max s }
  else w

/-- The bounds after CAL_OBSERVE, `c_prev` still the previous byte (R130). -/
def observedBounds (cfg : CfgRecord) (c : CalRegs) (s : Sample) : CalRegs :=
  if wrapTested cfg c then reanchor cfg (widen c s) s else widen c s

/-- CAL_OBSERVE on the calibrator's registers (R130, R135). -/
def observeRegs (cfg : CfgRecord) (c : CalRegs) (s : Sample) : CalRegs :=
  let b := observedBounds cfg c s
  { b with c_prev := mappedByte cfg.ROUNDING b s, c_prev_valid := true }

/-- DEGEN_RANGE in CAL_OBSERVE: at the trial map, if it runs, or at the final map (R250; log 13). -/
def observeDegen (cfg : CfgRecord) (c : CalRegs) (s : Sample) : Bool :=
  (wrapTested cfg c && degenRange (widen c s)) || degenRange (observedBounds cfg c s)

/-- CAL_RESET on the calibrator's registers (R145). -/
def calResetRegs (x : Sample) : CalRegs :=
  { c_set := true, c_min := x, c_max := x, c_prev := 0, c_prev_valid := false }

/-- CAL_OBSERVE's state write (R130). -/
def State.runObserve (s : State) (x : Sample) : State :=
  { s with cal := observeRegs s.cfg s.cal x }

/-- CAL_RESET's state write (R145). -/
def State.runCalReset (s : State) (x : Sample) : State := { s with cal := calResetRegs x }

/-- CAL_OBSERVE: returns `(c_min, c_max)` (R130). -/
def execCalObserve (x : Sample) (s : State) : Host.Outcome State Fault Refusal :=
  perform s (operandsInRange (.calObserve x)) (s.runObserve x)
    (.calObserve (s.runObserve x).cal.c_min (s.runObserve x).cal.c_max)
    (condWhen (observeDegen s.cfg s.cal x) .DEGEN_RANGE)

/-- CAL_MAP: returns `MAPF(value, outMin, outMax)` and writes no state (R140). -/
def execCalMap (value : Sample) (outMin outMax : U9) (s : State) : Host.Outcome State Fault Refusal :=
  perform s (operandsInRange (.calMap value outMin outMax)) s
    (.calMap (BitVec.ofNat 9 (mapf s.cfg.ROUNDING s.cal (zext 12 value) (zext 9 outMin) (zext 9 outMax))))
    (condWhen (degenRange s.cal) .DEGEN_RANGE)

/-- CAL_RESET (R145). -/
def execCalReset (x : Sample) (s : State) : Host.Outcome State Fault Refusal :=
  perform s (operandsInRange (.calReset x)) (s.runCalReset x) .calReset []

end Sys2Proof.Machine
end

