-- ==== Sys2Proof/Machine/Velocity.lean ====
section
/-! DEFINITION. VelocityEstimator: VEL_PUSH, VEL_CLEAR (spec/42_velocity_estimator.md R160 to R167). -/

namespace Sys2Proof.Machine

/-- `WRAP(d)`: above +180 subtract 360, below -180 add 360, strictly (R160, R163). -/
def wrapStep (d : Int) : Int :=
  if 180 < d then d - 360 else if d < -180 then d + 360 else d

/-- The sum of the wrap-corrected steps over adjacent pairs, each newer minus older, newest first (R162). -/
def netDisp : List U9 → Int
  | [] => 0
  | [_] => 0
  | a :: b :: rest => wrapStep ((zext 9 a : Int) - (zext 9 b : Int)) + netDisp (b :: rest)

/-- VEL_PUSH on the history: shift, and the new pair at index 0 (R160, R161). -/
def pushRegs (cfg : CfgRecord) (h : HistRegs) (a : U9) (t : Millis) : HistRegs :=
  { h_angle := shiftIn cfg.N a h.h_angle, h_ts := shiftIn cfg.N t h.h_ts }

/-- `dth` of a history, as s16 (R160; it fits by R167). -/
def displacement (h : HistRegs) : Disp := BitVec.ofInt 16 (netDisp h.h_angle)

/-- `dt = (h_ts[0] - h_ts[N-1]) mod 2^32` (R164). -/
def elapsed (cfg : CfgRecord) (h : HistRegs) : Millis := h.h_ts.getD 0 0 - h.h_ts.getD (cfg.N - 1) 0

/-- Every pair (0, 0) (R166). -/
def clearedHist (cfg : CfgRecord) : HistRegs :=
  { h_angle := List.replicate cfg.N 0, h_ts := List.replicate cfg.N 0 }

/-- VEL_PUSH's state write (R160). -/
def State.runVelPush (s : State) (a : U9) (t : Millis) : State :=
  { s with hist := pushRegs s.cfg s.hist a t }

/-- VEL_CLEAR's state write (R166). -/
def State.runVelClear (s : State) : State := { s with hist := clearedHist s.cfg }

/-- The displacement of the state's history. -/
def State.dth (s : State) : Disp := displacement s.hist

/-- The elapsed time of the state's history. -/
def State.dt (s : State) : Millis := elapsed s.cfg s.hist

/-- VEL_PUSH: returns (dth, dt, dvalid) (R160); an angle of 360 or more is refused (R90). -/
def execVelPush (a : U9) (t : Millis) (s : State) : Host.Outcome State Fault Refusal :=
  perform s (operandsInRange (.velPush a t)) (s.runVelPush a t)
    (.velPush (s.runVelPush a t).dth (s.runVelPush a t).dt (dvalidOf (s.runVelPush a t).dt))
    (condWhen (!dvalidOf (s.runVelPush a t).dt) .DT_ZERO)

/-- VEL_CLEAR (R166). -/
def execVelClear (s : State) : Host.Outcome State Fault Refusal :=
  perform s (operandsInRange .velClear) s.runVelClear .velClear []

end Sys2Proof.Machine
end

