-- ==== Sys2Proof/Machine/ModeControl.lean ====
section
/-! DEFINITION. ModeController: MODE_STEP (spec/44_mode_controller.md R190 to R197). -/

namespace Sys2Proof.Machine

/-- The action that fires: one, on the edge of the latch, in the priority toGamepad, toKeyboard, toCalibrate (R192,
R193, R195). -/
def modeAction (c : Chords) (m_latch : Bool) : Action :=
  if anyChord c && !m_latch then
    if c.toGamepad then .TO_GP else if c.toKeyboard then .TO_KB else .CAL
  else .NONE

/-- `m_mode` after an action (R192). -/
def nextMode (a : Action) (m : Mode) : Mode :=
  match a with
  | .NONE => m
  | .TO_GP => .Gamepad
  | .TO_KB => .Keyboard
  | .CAL => m

/-- `CALIBRATE()` performs CAL_RESET(f_stable) and then VEL_CLEAR (R194). -/
def State.calibrate (s : State) : State := (s.runCalReset s.flt.f_stable).runVelClear

/-- The action of this step (R192). -/
def State.action (s : State) (level : Level) : Action := modeAction (chordsOf s.cfg level) s.mode.m_latch

/-- The effect of an action on everything but the ModeController's registers (R194). -/
def State.applyAction (s : State) (a : Action) : State :=
  match a with
  | .NONE => s
  | .TO_GP => s
  | .TO_KB => s
  | .CAL => s.calibrate

/-- MODE_STEP's state write (R192). -/
def State.runModeStep (s : State) (level : Level) : State :=
  { s.applyAction (s.action level) with
    mode :=
      { m_mode := nextMode (s.action level) s.mode.m_mode
        m_latch := nextLatch (chordsOf s.cfg level) s.mode.m_latch } }

/-- MODE_STEP: returns the action (R192). -/
def execModeStep (level : Level) (s : State) : Host.Outcome State Fault Refusal :=
  perform s (operandsInRange (.modeStep level)) (s.runModeStep level) (.modeStep (s.action level)) []

end Sys2Proof.Machine
end

