-- ==== Sys2Proof/Machine/Report.lean ====
section
/-! DEFINITION. ReportBuilder: BUILD_REPORT (spec/45_report_builder.md R210 to R216, spec/20_memory.md R62 and R63). -/

namespace Sys2Proof.Machine

/-- The bitmap: the sum of 2^i over the pressed buttons (R210, R211). -/
def bitmap (level : Level) : BitVec 16 :=
  BitVec.ofNat 16 ((pressedButtons level).map (fun i => 2 ^ i)).sum

/-- `[bm[7:0], bm[15:8], g_axis]` (R210, R214, R215): low byte first (R62). -/
def gpBytes (level : Level) (g_axis : Byte) : List Byte :=
  [(bitmap level).extractLsb' 0 8, (bitmap level).extractLsb' 8 8, g_axis]

/-- The keycodes of the pressed buttons, in increasing button index (R212). -/
def pressedKeycodes (cfg : CfgRecord) (level : Level) : List Byte :=
  (pressedButtons level).map (fun i => BitVec.ofNat 8 (cfg.KEYCODE.getD i 0))

/-- The six slots: filled from slot 0, further buttons dropped, empty slots 0 (R212, R213). -/
def kbBytes (cfg : CfgRecord) (m_mode : Mode) (level : Level) : List Byte :=
  match m_mode with
  | .Gamepad => List.replicate rolloverSlots 0
  | .Keyboard => (pressedKeycodes cfg level ++ List.replicate rolloverSlots 0).take rolloverSlots

/-- BUILD_REPORT's result; it writes no state (R210, R216). -/
def State.report (s : State) (level : Level) : Report :=
  { gp_bytes := gpBytes level s.g_axis, kb_bytes := kbBytes s.cfg s.mode.m_mode level }

/-- BUILD_REPORT (R210). -/
def execBuildReport (level : Level) (s : State) : Host.Outcome State Fault Refusal :=
  perform s (operandsInRange (.buildReport level)) s (.buildReport (s.report level)) []

end Sys2Proof.Machine
end

