-- ==== Sys2Proof/Machine/Control.lean ====
section
/-! DEFINITION. TICK, CONFIGURE and POR (spec/46_tick_and_control.md R230 to R240), and the reset values of
spec/10_state.md R45. -/

namespace Sys2Proof.Machine

/-! ## TICK -/

/-- FILTER then CAL_OBSERVE of the filtered sample: the first two lines of R230. -/
def State.tickObserved (s : State) (raw : Sample) : State :=
  (s.runFilter raw).runObserve (s.runFilter raw).flt.f_stable

/-- The tick value `m` (R230). -/
def State.tickByte (s : State) (raw : Sample) : Byte :=
  mappedByte s.cfg.ROUNDING (s.tickObserved raw).cal (s.runFilter raw).flt.f_stable

/-- The tick value `a` (R147, R230). -/
def State.tickAngle (s : State) (raw : Sample) : U9 :=
  mappedAngle s.cfg.ROUNDING (s.tickObserved raw).cal (s.runFilter raw).flt.f_stable

/-- After VEL_PUSH(a, now) (R230). -/
def State.tickPushed (s : State) (raw : Sample) (now : Millis) : State :=
  (s.tickObserved raw).runVelPush (s.tickAngle raw) now

/-- After GATE_ACCEPT(m, dth, dt) (R230). -/
def State.tickGated (s : State) (raw : Sample) (now : Millis) : State :=
  (s.tickPushed raw now).runGate (s.tickByte raw) (s.tickPushed raw now).dth (s.tickPushed raw now).dt

/-- After MODE_STEP(level): every state write of the tick, in R231's order. -/
def State.runTick (s : State) (raw : Sample) (level : Level) (now : Millis) : State :=
  (s.tickGated raw now).runModeStep level

/-- The ports: each channel submitted exactly when ready, the payloads driven either way (R42, R238). -/
def portsOf (r : Report) (rdy_gp rdy_kb : Bool) : Ports :=
  { sub_gp := rdy_gp, gp_bytes := r.gp_bytes, sub_kb := rdy_kb, kb_bytes := r.kb_bytes }

/-- The conditions of R250 met in a tick. -/
def State.tickConditions (s : State) (raw : Sample) (now : Millis) : List Condition :=
  condWhen (observeDegen s.cfg s.cal (s.runFilter raw).flt.f_stable || degenRange (s.tickObserved raw).cal)
    .DEGEN_RANGE
  ++ condWhen (!dvalidOf (s.tickPushed raw now).dt) .DT_ZERO

/-- TICK (R230). -/
def execTick (raw : Sample) (level : Level) (now : Millis) (rdy_gp rdy_kb : Bool) (s : State) :
    Host.Outcome State Fault Refusal :=
  perform s (operandsInRange (.tick raw level now rdy_gp rdy_kb)) (s.runTick raw level now)
    (.tick (portsOf ((s.runTick raw level now).report level) rdy_gp rdy_kb))
    (s.tickConditions raw now)

/-- The two HID channels of the transport (R42). -/
inductive Channel where
  | Gamepad
  | Keyboard
  deriving DecidableEq, Repr

/-- What the transport is handed at the end of a tick, "Gamepad then Keyboard" (R238). -/
def submits (p : Ports) : List (Channel × List Byte) :=
  (if p.sub_gp then [(.Gamepad, p.gp_bytes)] else []) ++ (if p.sub_kb then [(.Keyboard, p.kb_bytes)] else [])

/-! ## POR and CONFIGURE -/

/-- The filter's reset values (R45). -/
def resetFilter (cfg : CfgRecord) : FilterRegs :=
  { f_buf := List.replicate cfg.K 0, f_cur := 0, f_sum := 0, f_seeded := false, f_stable := 0 }

/-- The calibrator's reset values, by CAL_INIT (R45). -/
def resetCal (cfg : CfgRecord) : CalRegs :=
  match cfg.CAL_INIT with
  | .UNSET => { c_set := false, c_min := 0, c_max := 0, c_prev := 0, c_prev_valid := false }
  | .PRESET lo hi =>
    { c_set := true, c_min := BitVec.ofNat 12 lo, c_max := BitVec.ofNat 12 hi, c_prev := 0, c_prev_valid := false }

/-- POR: every element of spec/10_state.md but `configured` takes its value of R45; `cfg` and `configured` are
unchanged (R237). The model's own inbox and trace are not elements of it. -/
def State.powerOnReset (s : State) : State :=
  { s with
    flt := resetFilter s.cfg
    cal := resetCal s.cfg
    hist := clearedHist s.cfg
    g_axis := 0
    mode := { m_mode := .Gamepad, m_latch := false } }

/-- A CONFIGURE that accepts: `cfg <- newcfg`, `configured <- true`, POR() (R235). -/
def State.accept (s : State) (newcfg : CfgRecord) : State :=
  State.powerOnReset { s with cfg := newcfg, configured := true }

/-- CONFIGURE: refused with BAD_CONFIG if the record is illegal by R21, state, cfg and configured unchanged (R235). -/
def execConfigure (newcfg : CfgRecord) (s : State) : Host.Outcome State Fault Refusal :=
  if cfgLegal newcfg then .next ((s.accept newcfg).emit .configure []) else .refused .badConfig

/-- POR: "refused while `configured` is false, like every word but CONFIGURE" (R237). -/
def execPor (s : State) : Host.Outcome State Fault Refusal :=
  perform s (operandsInRange .por) s.powerOnReset .por []

end Sys2Proof.Machine
end

