-- ==== Sys2Proof/Machine/Dispatch.lean ====
section
/-! DEFINITION. One arm per operation: spec/30_encoding.md R81. -/

namespace Sys2Proof.Machine

def exec (i : Instr) (s : State) : Host.Outcome State Fault Refusal :=
  match i with
  | .tick raw level now rdy_gp rdy_kb => Sys2Proof.Machine.execTick raw level now rdy_gp rdy_kb s
  | .filter raw => Sys2Proof.Machine.execFilter raw s
  | .calObserve x => Sys2Proof.Machine.execCalObserve x s
  | .calMap value outMin outMax => Sys2Proof.Machine.execCalMap value outMin outMax s
  | .calReset x => Sys2Proof.Machine.execCalReset x s
  | .velPush a t => Sys2Proof.Machine.execVelPush a t s
  | .velClear => Sys2Proof.Machine.execVelClear s
  | .gateAccept cand dth dt => Sys2Proof.Machine.execGateAccept cand dth dt s
  | .modeStep level => Sys2Proof.Machine.execModeStep level s
  | .buildReport level => Sys2Proof.Machine.execBuildReport level s
  | .configure newcfg => Sys2Proof.Machine.execConfigure newcfg s
  | .por => Sys2Proof.Machine.execPor s

end Sys2Proof.Machine
end

