-- ==== Sys2Proof/Decode.lean ====
section
/-! DEFINITION. The command-word decoder and encoder (spec/30_encoding.md R80 to R92) and the rows of
spec/opcode_table.json. The decoder is total: a word decodes to one operation, or is illegal for one of the two
reasons R91 gives. Operands outside the ranges of R90 still decode: the operation refuses them (R92, R252). -/

namespace Sys2Proof

/-- Why a word is illegal (R91), in the order of R252. -/
inductive DecodeError where
  /-- op in 0xA..0xD. -/
  | reservedOp
  /-- A reserved bit of the word's format is 1. -/
  | reservedBits
  deriving DecidableEq, Repr

/-- What the decoder answers. -/
inductive Decoded where
  | ok (i : Instr)
  | illegal (e : DecodeError)
  deriving DecidableEq, Repr

/-- The operation codes of R81, one per row of spec/opcode_table.json. -/
inductive Opcode where
  | TICK
  | FILTER
  | CAL_OBSERVE
  | CAL_MAP
  | CAL_RESET
  | VEL_PUSH
  | VEL_CLEAR
  | GATE_ACCEPT
  | MODE_STEP
  | BUILD_REPORT
  | CONFIGURE
  | POR
  deriving DecidableEq, Repr

/-- The formats of R82 to R89. -/
inductive Format where
  | T
  | S12
  | MAP
  | PUSH
  | GATE
  | LVL
  | NONE
  | CFG
  deriving DecidableEq, Repr

/-- `cmd[lo+n-1 : lo]`, n bits from bit lo upward (R11). -/
def bits (w : CommandWord) (lo n : Nat) : BitVec n := w.extractLsb' lo n

/-- Bit i of the word (R11). -/
def bit (w : CommandWord) (i : Nat) : Bool := w.getLsbD i

/-- `op = cmd[3:0]` looked up in R81; 0xA..0xD are reserved. -/
def opcodeOf (w : CommandWord) : Option Opcode :=
  match (bits w 0 4).toNat with
  | 0x0 => some .TICK
  | 0x1 => some .FILTER
  | 0x2 => some .CAL_OBSERVE
  | 0x3 => some .CAL_MAP
  | 0x4 => some .CAL_RESET
  | 0x5 => some .VEL_PUSH
  | 0x6 => some .VEL_CLEAR
  | 0x7 => some .GATE_ACCEPT
  | 0x8 => some .MODE_STEP
  | 0x9 => some .BUILD_REPORT
  | 0xE => some .CONFIGURE
  | 0xF => some .POR
  | _ => none

/-- The code column of R81. -/
def opcodeCode : Opcode → BitVec 4
  | .TICK => 0x0
  | .FILTER => 0x1
  | .CAL_OBSERVE => 0x2
  | .CAL_MAP => 0x3
  | .CAL_RESET => 0x4
  | .VEL_PUSH => 0x5
  | .VEL_CLEAR => 0x6
  | .GATE_ACCEPT => 0x7
  | .MODE_STEP => 0x8
  | .BUILD_REPORT => 0x9
  | .CONFIGURE => 0xE
  | .POR => 0xF

/-- The mnemonic column of R81. -/
def opcodeMnemonic : Opcode → String
  | .TICK => "TICK"
  | .FILTER => "FILTER"
  | .CAL_OBSERVE => "CAL_OBSERVE"
  | .CAL_MAP => "CAL_MAP"
  | .CAL_RESET => "CAL_RESET"
  | .VEL_PUSH => "VEL_PUSH"
  | .VEL_CLEAR => "VEL_CLEAR"
  | .GATE_ACCEPT => "GATE_ACCEPT"
  | .MODE_STEP => "MODE_STEP"
  | .BUILD_REPORT => "BUILD_REPORT"
  | .CONFIGURE => "CONFIGURE"
  | .POR => "POR"

/-- The format column of R81. -/
def opcodeFormat : Opcode → Format
  | .TICK => .T
  | .FILTER => .S12
  | .CAL_OBSERVE => .S12
  | .CAL_MAP => .MAP
  | .CAL_RESET => .S12
  | .VEL_PUSH => .PUSH
  | .VEL_CLEAR => .NONE
  | .GATE_ACCEPT => .GATE
  | .MODE_STEP => .LVL
  | .BUILD_REPORT => .LVL
  | .CONFIGURE => .CFG
  | .POR => .NONE

/-- The reserved bits of each format: the rows marked "reserved, 0" of R82 to R89. -/
def reservedMask : Format → CommandWord
  | .T => 0x00000000E0000000#64
  | .S12 => 0xFFFFFFFFFFFF0000#64
  | .MAP => 0xFFFFFFFC00000000#64
  | .PUSH => 0x00000000FFFFE000#64
  | .GATE => 0x00000000F0000000#64
  | .LVL => 0xFFFFFFFFFFFF8000#64
  | .NONE => 0xFFFFFFFFFFFFFFF0#64
  | .CFG => 0xFFFFFFFFFFFFFFF0#64

/-- The operation of an opcode, its operands taken from the fields of its format (R82 to R90); CONFIGURE takes the
side record (R89). -/
def assembleOperands (c : Command) : Opcode → Instr
  | .TICK =>
    .tick (bits c.word 4 12) (bits c.word 16 11) (bits c.word 32 32) (bit c.word 27) (bit c.word 28)
  | .FILTER => .filter (bits c.word 4 12)
  | .CAL_OBSERVE => .calObserve (bits c.word 4 12)
  | .CAL_MAP => .calMap (bits c.word 4 12) (bits c.word 16 9) (bits c.word 25 9)
  | .CAL_RESET => .calReset (bits c.word 4 12)
  | .VEL_PUSH => .velPush (bits c.word 4 9) (bits c.word 32 32)
  | .VEL_CLEAR => .velClear
  | .GATE_ACCEPT => .gateAccept (bits c.word 4 8) (bits c.word 12 16) (bits c.word 32 32)
  | .MODE_STEP => .modeStep (bits c.word 4 11)
  | .BUILD_REPORT => .buildReport (bits c.word 4 11)
  | .CONFIGURE => .configure c.side
  | .POR => .por

/-- "every 64-bit value either decodes to one operation of rule R81 with its operands, or is illegal" (R92); a
reserved op is reported before a reserved bit (R252). -/
def decode (c : Command) : Decoded :=
  match opcodeOf c.word with
  | none => .illegal .reservedOp
  | some o =>
    if c.word &&& reservedMask (opcodeFormat o) = 0 then .ok (assembleOperands c o)
    else .illegal .reservedBits

/-! ## Encoder -/

/-- A field's value placed with its bit 0 at bit `lo` of the word (R82 to R89). -/
def place (n : Nat) (v : BitVec n) (lo : Nat) : CommandWord := v.setWidth 64 <<< lo

/-- A single-bit field placed at bit `lo` (R82). -/
def placeBit (b : Bool) (lo : Nat) : CommandWord := place 1 (BitVec.ofBool b) lo

/-- The opcode of an operation (R81). -/
def opcodeOfInstr : Instr → Opcode
  | .tick _ _ _ _ _ => .TICK
  | .filter _ => .FILTER
  | .calObserve _ => .CAL_OBSERVE
  | .calMap _ _ _ => .CAL_MAP
  | .calReset _ => .CAL_RESET
  | .velPush _ _ => .VEL_PUSH
  | .velClear => .VEL_CLEAR
  | .gateAccept _ _ _ => .GATE_ACCEPT
  | .modeStep _ => .MODE_STEP
  | .buildReport _ => .BUILD_REPORT
  | .configure _ => .CONFIGURE
  | .por => .POR

/-- The operand fields of an operation's word (R82 to R89). -/
def operandWord : Instr → CommandWord
  | .tick raw level now rdy_gp rdy_kb =>
    place 12 raw 4 ||| place 11 level 16 ||| placeBit rdy_gp 27 ||| placeBit rdy_kb 28 ||| place 32 now 32
  | .filter raw => place 12 raw 4
  | .calObserve s => place 12 s 4
  | .calMap value outMin outMax => place 12 value 4 ||| place 9 outMin 16 ||| place 9 outMax 25
  | .calReset x => place 12 x 4
  | .velPush angle ts => place 9 angle 4 ||| place 32 ts 32
  | .velClear => 0
  | .gateAccept cand dth dt => place 8 cand 4 ||| place 16 dth 12 ||| place 32 dt 32
  | .modeStep level => place 11 level 4
  | .buildReport level => place 11 level 4
  | .configure _ => 0
  | .por => 0

/-- The word of an operation, every reserved bit 0 (R81 to R91). -/
def encodeWord (i : Instr) : CommandWord :=
  place 4 (opcodeCode (opcodeOfInstr i)) 0 ||| operandWord i

/-- The side record an operation is issued with. Only CONFIGURE reads it (R89); for the others the model issues the
power-on record (DESIGN CHOICE, log 6). -/
def encodeSide : Instr → CfgRecord
  | .tick _ _ _ _ _ => .powerOn
  | .filter _ => .powerOn
  | .calObserve _ => .powerOn
  | .calMap _ _ _ => .powerOn
  | .calReset _ => .powerOn
  | .velPush _ _ => .powerOn
  | .velClear => .powerOn
  | .gateAccept _ _ _ => .powerOn
  | .modeStep _ => .powerOn
  | .buildReport _ => .powerOn
  | .configure newcfg => newcfg
  | .por => .powerOn

/-- The command of an operation: its word and its side record. -/
def encode (i : Instr) : Command := { word := encodeWord i, side := encodeSide i }

/-! ## The opcode table, and the host's entry -/

/-- A row of spec/opcode_table.json: a word is the row's operation when its bits under `mask` are `pattern`. -/
structure TableRow where
  opcode : Opcode
  pattern : CommandWord
  mask : CommandWord
  deriving DecidableEq, Repr

/-- The twelve rows of spec/opcode_table.json, in its order (columns "match" and "mask"). -/
def opcodeTable : List TableRow :=
  [ ⟨.TICK, 0x0000000000000000#64, 0x00000000E000000F#64⟩,
    ⟨.FILTER, 0x0000000000000001#64, 0xFFFFFFFFFFFF000F#64⟩,
    ⟨.CAL_OBSERVE, 0x0000000000000002#64, 0xFFFFFFFFFFFF000F#64⟩,
    ⟨.CAL_MAP, 0x0000000000000003#64, 0xFFFFFFFC0000000F#64⟩,
    ⟨.CAL_RESET, 0x0000000000000004#64, 0xFFFFFFFFFFFF000F#64⟩,
    ⟨.VEL_PUSH, 0x0000000000000005#64, 0x00000000FFFFE00F#64⟩,
    ⟨.VEL_CLEAR, 0x0000000000000006#64, 0xFFFFFFFFFFFFFFFF#64⟩,
    ⟨.GATE_ACCEPT, 0x0000000000000007#64, 0x00000000F000000F#64⟩,
    ⟨.MODE_STEP, 0x0000000000000008#64, 0xFFFFFFFFFFFF800F#64⟩,
    ⟨.BUILD_REPORT, 0x0000000000000009#64, 0xFFFFFFFFFFFF800F#64⟩,
    ⟨.CONFIGURE, 0x000000000000000E#64, 0xFFFFFFFFFFFFFFFF#64⟩,
    ⟨.POR, 0x000000000000000F#64, 0xFFFFFFFFFFFFFFFF#64⟩ ]

/-- The command word of `nbits` bits given as a number, the bits above them 0. A command word "has no byte order,
because it is never stored in bytes" (R64). -/
def tableWord (nbits w : Nat) : CommandWord := BitVec.ofNat 64 (w % 2 ^ nbits)

/-- The operation the decoder reads from an opcode-table word; CONFIGURE gets the power-on record as its side
operand, which a word does not carry (R89; DESIGN CHOICE, log 6). -/
def decodeTableWord (nbits w : Nat) : Option Instr :=
  match decode { word := tableWord nbits w, side := .powerOn } with
  | .ok i => some i
  | .illegal _ => none

end Sys2Proof
end

