-- ==== Sys2Proof/Machine/Fetch.lean ====
section
/-! DEFINITION. Taking the next command from the inbox, and placing one there for the host. The block "fetches no
instructions" (spec/20_memory.md R71): the host issues command words (spec/46_tick_and_control.md R241). -/

namespace Sys2Proof.Machine

/-- The refusal of an illegal word (R91, R251). -/
def refusalOf : DecodeError → Refusal
  | .reservedOp => .reservedOp
  | .reservedBits => .reservedBits

/-- A command put before all that the inbox holds. -/
def State.issueFirst (s : State) (c : Command) : State := { s with inbox := c :: s.inbox }

/-- The boot that R272 asks of the host before any word but CONFIGURE: an unconfigured block gets the power-on record
by an accepted CONFIGURE, without its event; a configured block is left as it is (log 7). -/
def State.booted (s : State) : State := if s.configured then s else s.accept .powerOn

/-- The word needs a configured block before it can run: it decodes to an operation that is not CONFIGURE (R236). -/
def needsBoot (w : CommandWord) : Bool :=
  match opcodeOf w with
  | none => false
  | some o => decide (o ≠ .CONFIGURE)

end Sys2Proof.Machine
end

