-- ==== Sys2Proof/Machine/Step.lean ====
section
/-! DEFINITION. One step: the next command word is taken, decoded and performed (spec/30_encoding.md R92), or the block
waits (spec/70_reset_and_hazards.md R270, spec/60_exceptions.md R262). -/

namespace Sys2Proof.Machine

/-- With no word issued the block "holds all its state unchanged" (R262). An illegal word is refused (R92); any other
word's operation is performed on the state with the word taken from the inbox. -/
def step (s : State) : Host.Outcome State Fault Refusal :=
  match s.inbox with
  | [] => .next s
  | c :: _ =>
    match decode c with
    | .illegal e => .refused (refusalOf e)
    | .ok i => exec i s.take

/-- The state with an opcode-table word as the next command, and the power-on record as its side operand (log 6); an
unconfigured block is booted first where the word needs it (R272; log 7). -/
def State.withFetchWord (s : State) (nbits w : Nat) : State :=
  (if needsBoot (tableWord nbits w) then s.booted else s).issueFirst
    { word := tableWord nbits w, side := .powerOn }

end Sys2Proof.Machine
end

