-- ==== Sys2Proof/Machine/Assembler.lean ====
section
/-! DEFINITION. The assembler syntax (spec/30_encoding.md R93) and the pseudo-operation TICKP (R94). -/

namespace Sys2Proof

/-- 0x7FF with the bits of the listed buttons cleared (R94). -/
def levelPressing (buttons : List Nat) : Level :=
  buttons.foldl (fun l i => l &&& ~~~((1#11) <<< i)) 0x7FF#11

/-- `TICKP raw, {i, j, ...}, now` expands to `TICK raw, L, now, 1, 1` (R94). -/
def tickp (raw : Sample) (buttons : List Nat) (now : Millis) : Instr :=
  .tick raw (levelPressing buttons) now true true

/-- The operands of an assembler line, in R93's order. CONFIGURE's record is not a number. -/
def asmOperands : Instr → List Int
  | .tick raw level now rdy_gp rdy_kb =>
    [raw.toNat, level.toNat, now.toNat, if rdy_gp then 1 else 0, if rdy_kb then 1 else 0]
  | .filter raw => [raw.toNat]
  | .calObserve x => [x.toNat]
  | .calMap value outMin outMax => [value.toNat, outMin.toNat, outMax.toNat]
  | .calReset x => [x.toNat]
  | .velPush angle ts => [angle.toNat, ts.toNat]
  | .velClear => []
  | .gateAccept cand dth dt => [cand.toNat, dth.toInt, dt.toNat]
  | .modeStep level => [level.toNat]
  | .buildReport level => [level.toNat]
  | .configure _ => []
  | .por => []

/-- An unsigned operand that fits its field. -/
def asmUnsigned (n : Nat) (v : Int) : Option (BitVec n) :=
  if 0 ≤ v ∧ v < 2 ^ n then some (BitVec.ofInt n v) else none

/-- A signed operand that fits its field ("dth is a signed decimal", R93). -/
def asmSigned (n : Nat) (v : Int) : Option (BitVec n) :=
  if -(2 ^ n) ≤ 2 * v ∧ 2 * v < 2 ^ n then some (BitVec.ofInt n v) else none

/-- A single-bit operand. -/
def asmBit (v : Int) : Option Bool :=
  if v = 0 then some false else if v = 1 then some true else none

/-- The operation of an assembler line: its mnemonic, its operands in order, and the record of a CONFIGURE (R93). -/
def assemble (o : Opcode) (operands : List Int) (side : CfgRecord) : Option Instr :=
  match o, operands with
  | .TICK, [raw, level, now, rdy_gp, rdy_kb] => do
    some (.tick (← asmUnsigned 12 raw) (← asmUnsigned 11 level) (← asmUnsigned 32 now) (← asmBit rdy_gp)
      (← asmBit rdy_kb))
  | .FILTER, [raw] => do some (.filter (← asmUnsigned 12 raw))
  | .CAL_OBSERVE, [x] => do some (.calObserve (← asmUnsigned 12 x))
  | .CAL_MAP, [value, outMin, outMax] => do
    some (.calMap (← asmUnsigned 12 value) (← asmUnsigned 9 outMin) (← asmUnsigned 9 outMax))
  | .CAL_RESET, [x] => do some (.calReset (← asmUnsigned 12 x))
  | .VEL_PUSH, [angle, ts] => do some (.velPush (← asmUnsigned 9 angle) (← asmUnsigned 32 ts))
  | .VEL_CLEAR, [] => some .velClear
  | .GATE_ACCEPT, [cand, dth, dt] => do
    some (.gateAccept (← asmUnsigned 8 cand) (← asmSigned 16 dth) (← asmUnsigned 32 dt))
  | .MODE_STEP, [level] => do some (.modeStep (← asmUnsigned 11 level))
  | .BUILD_REPORT, [level] => do some (.buildReport (← asmUnsigned 11 level))
  | .CONFIGURE, [] => some (.configure side)
  | .POR, [] => some .por
  | _, _ => none

/-- The assembler line of an operation, numbers in decimal; a CONFIGURE record is printed as Lean prints it (log 14). -/
def asmLine (i : Instr) : String :=
  match i with
  | .configure newcfg => "CONFIGURE " ++ toString (repr newcfg)
  | other =>
    match asmOperands other with
    | [] => opcodeMnemonic (opcodeOfInstr other)
    | ops => opcodeMnemonic (opcodeOfInstr other) ++ " " ++ String.intercalate ", " (ops.map toString)

end Sys2Proof
end

