-- ==== Sys2Proof/WellFormed.lean ====
section
/-! DEFINITION. Which operations are well formed as syntax: the operand ranges of spec/30_encoding.md R90, and a
record legal by spec/10_state.md R21 for CONFIGURE. Every other operand is in range by its width. -/

namespace Sys2Proof

/-- An operation the spec admits once the block is configured (R90, R21). -/
def Instr.wellFormed : Instr → Bool
  | .configure newcfg => cfgLegal newcfg
  | .tick raw level now rdy_gp rdy_kb => operandsInRange (.tick raw level now rdy_gp rdy_kb)
  | .filter raw => operandsInRange (.filter raw)
  | .calObserve s => operandsInRange (.calObserve s)
  | .calMap value outMin outMax => operandsInRange (.calMap value outMin outMax)
  | .calReset x => operandsInRange (.calReset x)
  | .velPush angle ts => operandsInRange (.velPush angle ts)
  | .velClear => operandsInRange .velClear
  | .gateAccept cand dth dt => operandsInRange (.gateAccept cand dth dt)
  | .modeStep level => operandsInRange (.modeStep level)
  | .buildReport level => operandsInRange (.buildReport level)
  | .por => operandsInRange .por

end Sys2Proof
end

