-- ==== Sys2Proof/Safety.lean ====
section
/-! DEFINITION. The terms claims use: the state invariant, the parts an operation leaves alone, and a run of issued
words with the refusal mark of spec/60_exceptions.md R251. -/

namespace Sys2Proof.Machine

/-! ## The invariant -/

/-- The filter's registers fit the record: K slots, the cursor in 0..K-1, the running sum (R23 to R25, R40), and
before the first sample everything zero (R45). -/
structure FilterRegs.Fits (f : FilterRegs) (cfg : CfgRecord) : Prop where
  length_eq : f.f_buf.length = cfg.K
  cur_lt : f.f_cur.toNat < cfg.K
  sum_eq : f.f_sum.toNat = (f.f_buf.map BitVec.toNat).sum
  unseeded : f.f_seeded = false → f.f_buf = List.replicate cfg.K 0 ∧ f.f_cur = 0 ∧ f.f_stable = 0

/-- The calibrator's registers: bounds in order once set (R29, R136), a preset range set from reset (R28), and the
previous byte 0 while it is not valid (R45, R145). -/
structure CalRegs.Fits (c : CalRegs) (cfg : CfgRecord) : Prop where
  min_le_max : c.c_set = true → c.c_min.toNat ≤ c.c_max.toNat
  unset_only : c.c_set = false → cfg.CAL_INIT = .UNSET ∧ c.c_prev_valid = false
  prev_zero : c.c_prev_valid = false → c.c_prev = 0

/-- The history has N pairs, every angle in 0..359 (R31, R40). -/
structure HistRegs.Fits (h : HistRegs) (cfg : CfgRecord) : Prop where
  angle_length : h.h_angle.length = cfg.N
  ts_length : h.h_ts.length = cfg.N
  angle_lt : ∀ a ∈ h.h_angle, a.toNat < 360

/-- What holds of every state a run reaches: the record held is legal (R21, R235) and every register fits it. -/
structure State.Inv (s : State) : Prop where
  legal : cfgLegal s.cfg = true
  flt : s.flt.Fits s.cfg
  cal : s.cal.Fits s.cfg
  hist : s.hist.Fits s.cfg

/-! ## Frames -/

/-- The registers of the block's components, configuration and `configured` included: all of spec/10_state.md, without
the model's own inbox and trace. -/
def State.SameBlock (s t : State) : Prop :=
  t.cfg = s.cfg ∧ t.configured = s.configured ∧ t.flt = s.flt ∧ t.cal = s.cal ∧ t.hist = s.hist
    ∧ t.g_axis = s.g_axis ∧ t.mode = s.mode

/-- `t` came from `s` by an operation with this output and these conditions, as far as the record, `configured`, the
inbox and the trace show it: those three unchanged, one event appended. (What an operation returned or drove is read
from the trace, which is the model's own: log 2.) -/
def State.Answered (s t : State) (output : Output) (conditions : List Condition) : Prop :=
  t.cfg = s.cfg ∧ t.configured = s.configured ∧ t.inbox = s.inbox ∧ t.trace = s.trace ++ [⟨output, conditions⟩]

/-! ## The spec's tables, as claims read them -/

/-- `cmd[3:0]` (R80). -/
def opNumber (w : CommandWord) : Nat := (w.extractLsb' 0 4).toNat

/-- A reserved bit of the word's format is nonzero: the rows "reserved, 0" of R82 to R89, by the op's number. -/
def ReservedBitSet (w : CommandWord) : Prop :=
  (opNumber w = 0x0 ∧ w.extractLsb' 29 3 ≠ 0)
  ∨ ((opNumber w = 0x1 ∨ opNumber w = 0x2 ∨ opNumber w = 0x4) ∧ w.extractLsb' 16 48 ≠ 0)
  ∨ (opNumber w = 0x3 ∧ w.extractLsb' 34 30 ≠ 0)
  ∨ (opNumber w = 0x5 ∧ w.extractLsb' 13 19 ≠ 0)
  ∨ ((opNumber w = 0x6 ∨ opNumber w = 0xE ∨ opNumber w = 0xF) ∧ w.extractLsb' 4 60 ≠ 0)
  ∨ (opNumber w = 0x7 ∧ w.extractLsb' 28 4 ≠ 0)
  ∨ ((opNumber w = 0x8 ∨ opNumber w = 0x9) ∧ w.extractLsb' 15 49 ≠ 0)

/-- An operand of the word is outside the ranges of R90: CAL_MAP with outmin > outmax, VEL_PUSH with angle ≥ 360. -/
def OperandOutOfRange (w : CommandWord) : Prop :=
  (opNumber w = 0x3 ∧ (w.extractLsb' 25 9).toNat < (w.extractLsb' 16 9).toNat)
  ∨ (opNumber w = 0x5 ∧ 360 ≤ (w.extractLsb' 4 9).toNat)

/-- "a set of exactly 3 distinct button indices in 0..10" (R21). -/
def IsChord (c : List Nat) : Prop := c.length = 3 ∧ c.Nodup ∧ ∀ j ∈ c, j ≤ 10

/-- The table of R21, row by row. -/
structure LegalRecord (c : CfgRecord) : Prop where
  k_range : 1 ≤ c.K ∧ c.K ≤ 255
  thresh_range : c.THRESH ≤ 4095
  preset_range : ∀ lo hi, c.CAL_INIT = .PRESET lo hi → lo ≤ hi ∧ hi ≤ 4095
  d_range : c.D ≤ 127
  n_range : 2 ≤ c.N ∧ c.N ≤ 64
  num_range : c.MIN_SPEED_NUM ≤ 2 ^ 32 - 1
  den_range : 1 ≤ c.MIN_SPEED_DEN ∧ c.MIN_SPEED_DEN ≤ 2 ^ 32 - 1
  chords : IsChord c.CHORD_GP ∧ IsChord c.CHORD_KB ∧ IsChord c.CHORD_CAL
  gp_ne_kb : ¬ ∀ j, j ∈ c.CHORD_GP ↔ j ∈ c.CHORD_KB
  gp_ne_cal : ¬ ∀ j, j ∈ c.CHORD_GP ↔ j ∈ c.CHORD_CAL
  kb_ne_cal : ¬ ∀ j, j ∈ c.CHORD_KB ↔ j ∈ c.CHORD_CAL
  keycodes : c.KEYCODE.length = 11 ∧ ∀ k ∈ c.KEYCODE, 1 ≤ k ∧ k ≤ 255

/-- The table of R45 for the record held, but for `configured`. -/
structure State.AtReset (s : State) : Prop where
  f_buf : s.flt.f_buf.length = s.cfg.K ∧ ∀ x ∈ s.flt.f_buf, x = 0
  f_rest : s.flt.f_cur = 0 ∧ s.flt.f_sum = 0 ∧ s.flt.f_seeded = false ∧ s.flt.f_stable = 0
  c_unset : s.cfg.CAL_INIT = .UNSET → s.cal.c_set = false ∧ s.cal.c_min = 0 ∧ s.cal.c_max = 0
  c_preset : ∀ lo hi, s.cfg.CAL_INIT = .PRESET lo hi →
    s.cal.c_set = true ∧ s.cal.c_min.toNat = lo ∧ s.cal.c_max.toNat = hi
  c_prev : s.cal.c_prev = 0 ∧ s.cal.c_prev_valid = false
  h_angle : s.hist.h_angle.length = s.cfg.N ∧ ∀ a ∈ s.hist.h_angle, a = 0
  h_ts : s.hist.h_ts.length = s.cfg.N ∧ ∀ t ∈ s.hist.h_ts, t = 0
  g_axis : s.g_axis = 0
  m_mode : s.mode.m_mode = .Gamepad
  m_latch : s.mode.m_latch = false

/-- Every button of the triple is pressed: its line is low (R190, R191). -/
def ChordPressed (level : Level) (chord : List Nat) : Prop := ∀ j ∈ chord, level.getLsbD j = false

/-- Some one of the three chords is pressed (R192). -/
def AnyChordPressed (cfg : CfgRecord) (level : Level) : Prop :=
  ChordPressed level cfg.CHORD_GP ∨ ChordPressed level cfg.CHORD_KB ∨ ChordPressed level cfg.CHORD_CAL

/-- The pressed buttons in increasing index order (R190). -/
def lowButtons (level : Level) : List Nat := (List.range 11).filter (fun i => level.getLsbD i = false)

/-- The keyboard payload of Keyboard mode: slot j holds the keycode of the j-th pressed button, and 0 where there is
none (R212, R213). -/
def KeyboardSlots (cfg : CfgRecord) (level : Level) (kb : List Byte) : Prop :=
  kb.length = 6 ∧ ∀ j < 6, (kb.getD j 0).toNat =
    if j < (lowButtons level).length then cfg.KEYCODE.getD ((lowButtons level).getD j 0) 0 else 0

/-- The exact value, times `span`, that CAL_MAP rounds: `(v - min) * (hi - lo) + lo * span` (R142). -/
def scaled (vc c_min span lo hi : Nat) : Nat := (vc - c_min) * (hi - lo) + lo * span

/-! ## Runs of issued words -/

/-- A run: the block's state, and the refusal mark "kept for the rest of the run" (R92, R251). -/
structure Run where
  state : State
  mark : Option Refusal
  deriving DecidableEq, Repr

/-- One word issued to a run. A refused word "changes no state" and leaves its mark, the first one kept. -/
def Run.issue (r : Run) (c : Command) : Run :=
  match step { r.state with inbox := [c] } with
  | .next t => { r with state := t }
  | .fault _ => r
  | .refused why => { r with mark := some (r.mark.getD why) }

/-- The words issued in order (R68). -/
def Run.issueAll (r : Run) (cs : List Command) : Run := cs.foldl Run.issue r

/-- A safe run: no word of it was refused (R251). -/
def Run.safe (r : Run) : Bool := r.mark.isNone

/-- A run that has just begun in a state. -/
def Run.start (s : State) : Run := { state := s, mark := none }

end Sys2Proof.Machine
end

