-- ==== Sys2Proof/Certificates/Slice0/Obligations.lean ====
section
/-! DEFINITION. The statements for the provers, from the numbered rules of spec/. Each docstring names the rules it
formalises, and the log entry where a clause rests on the model's own choice. -/

open Sys2Proof Sys2Proof.Machine

/-! ## Encoding and decoding -/

/-- The six worked encodings of R95: the assembler line's word, both ways. -/
def Obligations.DecodeWorkedWords : Prop :=
  (decode ⟨0x000003E81FFF1F40#64, .powerOn⟩ = .ok (.tick 500 0x7FF 1000 true true)
    ∧ encodeWord (.tick 500 0x7FF 1000 true true) = 0x000003E81FFF1F40#64)
  ∧ (decode ⟨0x000000000000FFF1#64, .powerOn⟩ = .ok (.filter 4095)
    ∧ encodeWord (.filter 4095) = 0x000000000000FFF1#64)
  ∧ (decode ⟨0x00000001FE001F43#64, .powerOn⟩ = .ok (.calMap 500 0 255)
    ∧ encodeWord (.calMap 500 0 255) = 0x00000001FE001F43#64)
  ∧ (decode ⟨0x00000007000015E5#64, .powerOn⟩ = .ok (.velPush 350 7)
    ∧ encodeWord (.velPush 350 7) = 0x00000007000015E5#64)
  ∧ (decode ⟨0x0000001F0FFEC807#64, .powerOn⟩ = .ok (.gateAccept 128 (BitVec.ofInt 16 (-20)) 31)
    ∧ encodeWord (.gateAccept 128 (BitVec.ofInt 16 (-20)) 31) = 0x0000001F0FFEC807#64)
  ∧ (decode ⟨0x000000000000000F#64, .powerOn⟩ = .ok .por ∧ encodeWord .por = 0x000000000000000F#64)

/-- Decoding an encoded operation gives it back, with every operand at every value (R80 to R90). -/
def Obligations.DecodeInvertsEncode : Prop := ∀ i : Instr, decode (encode i) = .ok i

/-- A word that decodes is the encoding of what it decodes to, bit for bit: no bit of an admitted word is dropped, and
CONFIGURE carries its side record (R80 to R91). -/
def Obligations.DecodedWordIsItsEncoding : Prop :=
  ∀ (c : Command) (i : Instr), decode c = .ok i →
    encodeWord i = c.word ∧ ∀ r, i = .configure r → r = c.side

/-- R91: a word with a reserved op, or with a nonzero reserved bit in its format, is illegal, and no other word is. -/
def Obligations.DecodeRefusesExactlyReserved : Prop :=
  ∀ c : Command,
    (decode c = .illegal .reservedOp ↔ 0xA ≤ opNumber c.word ∧ opNumber c.word ≤ 0xD)
    ∧ (decode c = .illegal .reservedBits ↔ ReservedBitSet c.word)
    ∧ ((∃ i, decode c = .ok i) ↔
        ¬ (0xA ≤ opNumber c.word ∧ opNumber c.word ≤ 0xD) ∧ ¬ ReservedBitSet c.word)

/-- The decoder agrees with every row of spec/opcode_table.json: a word matches the row's pattern under its mask exactly
when it decodes to the row's operation. -/
def Obligations.DecodeFollowsOpcodeTable : Prop :=
  ∀ (c : Command) (row : TableRow), row ∈ opcodeTable →
    (c.word &&& row.mask = row.pattern ↔ ∃ i, decode c = .ok i ∧ opcodeOfInstr i = row.opcode)

/-- R93: the operands of an operation's assembler line, in order, assemble back to it. -/
def Obligations.AssemblerLineReadsBack : Prop :=
  ∀ (i : Instr) (side : CfgRecord), (∀ r, i = .configure r → r = side) →
    assemble (opcodeOfInstr i) (asmOperands i) side = some i

/-- R94: TICKP is a TICK with both ready bits 1 whose level has exactly the listed buttons' bits cleared. -/
def Obligations.TickpPressesListedButtons : Prop :=
  ∀ (raw : Sample) (buttons : List Nat) (now : Millis),
    (∃ level : Level, tickp raw buttons now = .tick raw level now true true
      ∧ ∀ i < 11, level.getLsbD i = decide (i ∉ buttons))
    ∧ tickp raw [] now = .tick raw 0x7FF now true true

/-! ## Steps, refusals and runs -/

/-- A step takes the first word of the inbox, decodes it and runs the operation (R68, R92; the inbox is the model's
own, log 1). -/
def Obligations.StepRunsDecodedWord : Prop :=
  ∀ (s : State) (c : Command) (rest : List Command) (i : Instr),
    s.inbox = c :: rest → decode c = .ok i → step s = exec i { s with inbox := rest }

/-- With no word issued the block holds all its state unchanged (R262, R270; that a step then answers the same state is
the model's choice, log 1). -/
def Obligations.StepWaitsForAWord : Prop := ∀ s : State, s.inbox = [] → step s = .next s

/-- R252: the refusal reason is the first that applies; where none applies the word is performed. The reasons' own
conditions are those of R251's table. -/
def Obligations.StepRefusesInReasonOrder : Prop :=
  ∀ (s : State) (c : Command) (rest : List Command), s.inbox = c :: rest →
    ((0xA ≤ opNumber c.word ∧ opNumber c.word ≤ 0xD) → step s = .refused .reservedOp)
    ∧ (¬ (0xA ≤ opNumber c.word ∧ opNumber c.word ≤ 0xD) → ReservedBitSet c.word → step s = .refused .reservedBits)
    ∧ (¬ (0xA ≤ opNumber c.word ∧ opNumber c.word ≤ 0xD) → ¬ ReservedBitSet c.word →
        (opNumber c.word ≠ 0xE ∧ s.configured = false → step s = .refused .unconfigured)
        ∧ (¬ (opNumber c.word ≠ 0xE ∧ s.configured = false) →
            (OperandOutOfRange c.word → step s = .refused .operandRange)
            ∧ (¬ OperandOutOfRange c.word →
                (opNumber c.word = 0xE ∧ ¬ LegalRecord c.side → step s = .refused .badConfig)
                ∧ (¬ (opNumber c.word = 0xE ∧ ¬ LegalRecord c.side) → ∃ t, step s = .next t))))

/-- An operation completes exactly when it is well formed and the block is configured, CONFIGURE needing only the
first; an admitted operation leaves the inbox and appends one event to the trace (R92, R251; the trace is the model's
own, log 2). -/
def Obligations.OperationCompletesExactlyWhenAdmitted : Prop :=
  ∀ (i : Instr) (s : State),
    ((∃ t, exec i s = .next t) ↔ i.wellFormed = true ∧ (s.configured = true ∨ ∃ r, i = .configure r))
    ∧ ∀ t, exec i s = .next t → t.configured = true ∧ t.inbox = s.inbox ∧ ∃ e, t.trace = s.trace ++ [e]

/-- R236: before the first CONFIGURE that accepts, `configured` is false and every other word is refused, so that only
such a CONFIGURE sets it. -/
def Obligations.UnconfiguredRefusesEveryOtherOperation : Prop :=
  State.reset.configured = false
  ∧ (∀ (i : Instr) (s : State), s.configured = false → (∀ r, i ≠ .configure r) →
      exec i s = .refused .unconfigured)
  ∧ ∀ (s t : State) (c : Command) (rest : List Command), s.inbox = c :: rest → s.configured = false →
      step s = .next t → decode c = .ok (.configure c.side) ∧ t.cfg = c.side ∧ t.configured = true

/-- A refused word changes no state of a run and marks it; the mark is kept for the rest of the run, the first one, and
an unmarked run had no refused word (R92, R251; `Run` is the model's form of the mark, log 9). -/
def Obligations.RefusalMarkIsKept : Prop :=
  (∀ (r : Run) (c : Command) (why : Refusal), step { r.state with inbox := [c] } = .refused why →
    (r.issue c).state = r.state ∧ (r.issue c).mark = some (r.mark.getD why))
  ∧ (∀ (r : Run) (cs : List Command) (why : Refusal), r.mark = some why → (r.issueAll cs).mark = some why)
  ∧ ∀ (r : Run) (pre post : List Command) (c : Command), (r.issueAll (pre ++ c :: post)).mark = none →
      ∃ t, step { (r.issueAll pre).state with inbox := [c] } = .next t

/-- Every step goes on or is refused, for one of R251's five reasons and no other, and only where the host has issued a
word: nothing else stops the block (R250, R251; the inbox is the model's own, log 1). -/
def Obligations.EveryStepGoesOnOrRefusesByReason : Prop :=
  ∀ s : State,
    (∃ t, step s = .next t)
    ∨ ∃ why ∈ [Refusal.reservedOp, .reservedBits, .unconfigured, .operandRange, .badConfig],
        s.inbox ≠ [] ∧ step s = .refused why

/-! ## The invariant, and who writes what -/

/-- The state before any CONFIGURE meets the invariant. (The record it holds is the model's choice, log 4 and log 5.) -/
def Obligations.ResetMeetsInvariant : Prop := State.reset.Inv

/-- Every step keeps the invariant: the record legal, the window's length, cursor and running sum, the bounds in order,
the history's length and its angles below 360 (R21, R25, R29, R31, R40). -/
def Obligations.StepKeepsInvariant : Prop := ∀ s t : State, s.Inv → step s = .next t → t.Inv

/-- R25: the running sum is the sum of the window after every operation, and stays within 20 bits. -/
def Obligations.RunningSumIsWindowSum : Prop :=
  ∀ (i : Instr) (s t : State), s.Inv → exec i s = .next t →
    t.flt.f_sum.toNat = ((List.range t.cfg.K).map (fun j => (t.flt.f_buf.getD j 0).toNat)).sum
    ∧ t.flt.f_sum.toNat ≤ 1044225

/-- Each register is written only by the operations that the rules name: the frame of every operation (R20, R23, R24,
R27, R29, R31 to R35). -/
def Obligations.RegistersHaveTheirWriters : Prop :=
  ∀ (i : Instr) (s t : State), exec i s = .next t →
    (opcodeOfInstr i ∉ [.TICK, .FILTER, .CONFIGURE, .POR] → t.flt = s.flt)
    ∧ (opcodeOfInstr i ∉ [.TICK, .CAL_OBSERVE, .CAL_RESET, .MODE_STEP, .CONFIGURE, .POR] → t.cal = s.cal)
    ∧ (opcodeOfInstr i ∉ [.TICK, .VEL_PUSH, .VEL_CLEAR, .MODE_STEP, .CONFIGURE, .POR] → t.hist = s.hist)
    ∧ (opcodeOfInstr i ∉ [.TICK, .GATE_ACCEPT, .CONFIGURE, .POR] → t.g_axis = s.g_axis)
    ∧ (opcodeOfInstr i ∉ [.TICK, .MODE_STEP, .CONFIGURE, .POR] → t.mode = s.mode)
    ∧ (opcodeOfInstr i ≠ .CONFIGURE → t.cfg = s.cfg ∧ t.configured = s.configured)
    ∧ (opcodeOfInstr i ∈ [.CAL_MAP, .BUILD_REPORT] → s.SameBlock t)

/-- Nothing the block does depends on what was submitted before, nor on words not yet taken: two states with the same
block answer alike (R239, R67; inbox and trace are the model's own, log 1 and log 2). -/
def Obligations.BlockIgnoresTraceAndInbox : Prop :=
  ∀ (i : Instr) (s s' : State), s.SameBlock s' →
    (∀ t, exec i s = .next t → ∃ t' e, exec i s' = .next t' ∧ t.SameBlock t'
      ∧ t.trace = s.trace ++ [e] ∧ t'.trace = s'.trace ++ [e])
    ∧ ∀ why, exec i s = .refused why → exec i s' = .refused why

/-! ## FILTER -/

/-- The first FILTER after reset: with PREFILL the sample fills every slot and is the output; with ZEROFILL it enters a
window of zeros and the output is `raw div K` (R110, R112, R113). -/
def Obligations.FirstFilterFillsTheWindow : Prop :=
  ∀ (s : State) (raw : Sample), s.Inv → s.configured = true → s.flt.f_seeded = false →
    ∃ t, exec (.filter raw) s = .next t ∧ s.Answered t (.filter t.flt.f_stable) []
      ∧ (s.cfg.WARMUP = .PREFILL →
          t.flt.f_buf = List.replicate s.cfg.K raw ∧ t.flt.f_sum.toNat = s.cfg.K * raw.toNat
          ∧ t.flt.f_cur = 0 ∧ t.flt.f_stable = raw)
      ∧ (s.cfg.WARMUP = .ZEROFILL →
          t.flt.f_buf = raw :: List.replicate (s.cfg.K - 1) 0 ∧ t.flt.f_sum.toNat = raw.toNat
          ∧ t.flt.f_cur.toNat = 1 % s.cfg.K ∧ t.flt.f_stable.toNat = raw.toNat / s.cfg.K)
      ∧ t.flt.f_seeded = true
      ∧ t.cal = s.cal ∧ t.hist = s.hist ∧ t.g_axis = s.g_axis ∧ t.mode = s.mode

/-- R111's window: each sample after the first replaces the slot at the cursor, the sum loses the evicted value and
gains the new one, and the cursor advances by one modulo K. -/
def Obligations.FilterReplacesOldestSample : Prop :=
  ∀ (s : State) (raw : Sample), s.Inv → s.configured = true → s.flt.f_seeded = true →
    ∃ t, exec (.filter raw) s = .next t ∧ s.Answered t (.filter t.flt.f_stable) []
      ∧ (∀ j < s.cfg.K, t.flt.f_buf.getD j 0 = if j = s.flt.f_cur.toNat then raw else s.flt.f_buf.getD j 0)
      ∧ t.flt.f_sum.toNat + (s.flt.f_buf.getD s.flt.f_cur.toNat 0).toNat = s.flt.f_sum.toNat + raw.toNat
      ∧ t.flt.f_cur.toNat = (s.flt.f_cur.toNat + 1) % s.cfg.K
      ∧ t.flt.f_seeded = true
      ∧ t.cal = s.cal ∧ t.hist = s.hist ∧ t.g_axis = s.g_axis ∧ t.mode = s.mode

/-- R114: with MA_ONLY every FILTER sets `f_stable` to `stage1`, the running sum divided by K. -/
def Obligations.FilterMaOnlyFollowsAverage : Prop :=
  ∀ (s : State) (raw : Sample), s.Inv → s.configured = true → s.cfg.STAGES = .MA_ONLY →
    ∃ t, exec (.filter raw) s = .next t ∧ t.flt.f_stable.toNat = t.flt.f_sum.toNat / s.cfg.K

/-- R113, and R116's law: with MA_DEADBAND after the first sample the stable value is kept below the threshold and
takes the average otherwise, so it never moves by less; at the first sample it takes the average. -/
def Obligations.FilterDeadbandKeepsOrTakesAverage : Prop :=
  ∀ (s : State) (raw : Sample), s.Inv → s.configured = true → s.cfg.STAGES = .MA_DEADBAND →
    ∃ (t : State) (stage : Nat), exec (.filter raw) s = .next t ∧ stage = t.flt.f_sum.toNat / s.cfg.K
      ∧ (s.flt.f_seeded = false → t.flt.f_stable.toNat = stage)
      ∧ (s.flt.f_seeded = true →
          (|(stage : Int) - s.flt.f_stable.toNat| < s.cfg.THRESH → t.flt.f_stable = s.flt.f_stable)
          ∧ ((s.cfg.THRESH : Int) ≤ |(stage : Int) - s.flt.f_stable.toNat| → t.flt.f_stable.toNat = stage)
          ∧ (t.flt.f_stable ≠ s.flt.f_stable →
              (s.cfg.THRESH : Int) ≤ |(t.flt.f_stable.toNat : Int) - s.flt.f_stable.toNat|))

/-! ## CAL_OBSERVE, CAL_MAP, CAL_RESET -/

/-- The expanding policy: the first sample sets both bounds, later ones widen them; nothing but the calibrator is
written (R130, R131). -/
def Obligations.CalObserveExpandsBounds : Prop :=
  ∀ (s : State) (x : Sample), s.configured = true → s.cfg.CAL_POLICY = .EXPANDING →
    ∃ (t : State) (conds : List Condition), exec (.calObserve x) s = .next t
      ∧ s.Answered t (.calObserve t.cal.c_min t.cal.c_max) conds
      ∧ t.cal.c_set = true
      ∧ (s.cal.c_set = false → t.cal.c_min = x ∧ t.cal.c_max = x)
      ∧ (s.cal.c_set = true →
          t.cal.c_min.toNat = min s.cal.c_min.toNat x.toNat ∧ t.cal.c_max.toNat = max s.cal.c_max.toNat x.toNat)
      ∧ t.flt = s.flt ∧ t.hist = s.hist ∧ t.g_axis = s.g_axis ∧ t.mode = s.mode

/-- R136: after every CAL_OBSERVE, under either policy, the range is set and holds the sample, its bounds in order. -/
def Obligations.CalObserveRangeHoldsSample : Prop :=
  ∀ (s : State) (x : Sample), s.configured = true →
    (s.cal.c_set = true → s.cal.c_min.toNat ≤ s.cal.c_max.toNat) →
    ∃ t, exec (.calObserve x) s = .next t ∧ t.cal.c_set = true
      ∧ t.cal.c_min.toNat ≤ x.toNat ∧ x.toNat ≤ t.cal.c_max.toNat ∧ t.cal.c_min.toNat ≤ t.cal.c_max.toNat

/-- The wrap-hysteresis crossing test and re-anchoring (R132, R133, R134): zones with both ends included and disjoint,
a downward crossing moves `c_min`, an upward one `c_max`, and without a crossing the widened bounds stand. -/
def Obligations.CalObserveReanchorsOnCrossing : Prop :=
  ∀ (s : State) (x : Sample) (lo hi : Sample) (mt : Nat), s.Inv → s.configured = true →
    s.cfg.CAL_POLICY = .WRAP_HYST → s.cal.c_prev_valid = true →
    lo.toNat = min s.cal.c_min.toNat x.toNat → hi.toNat = max s.cal.c_max.toNat x.toNat →
    mt = mapf s.cfg.ROUNDING { s.cal with c_min := lo, c_max := hi } x.toNat 0 255 →
    ∃ t, exec (.calObserve x) s = .next t
      ∧ (255 - s.cfg.D ≤ s.cal.c_prev.toNat → mt ≤ s.cfg.D →
          t.cal.c_min.toNat = (9 * lo.toNat + x.toNat) / 10 ∧ t.cal.c_max = hi)
      ∧ (s.cal.c_prev.toNat ≤ s.cfg.D → 255 - s.cfg.D ≤ mt →
          t.cal.c_min = lo ∧ t.cal.c_max.toNat = (9 * hi.toNat + x.toNat) / 10)
      ∧ (¬ (255 - s.cfg.D ≤ s.cal.c_prev.toNat ∧ mt ≤ s.cfg.D) →
          ¬ (s.cal.c_prev.toNat ≤ s.cfg.D ∧ 255 - s.cfg.D ≤ mt) → t.cal.c_min = lo ∧ t.cal.c_max = hi)
      ∧ ¬ ((255 - s.cfg.D ≤ s.cal.c_prev.toNat ∧ mt ≤ s.cfg.D) ∧ (s.cal.c_prev.toNat ≤ s.cfg.D ∧ 255 - s.cfg.D ≤ mt))

/-- Without the wrap test (first sample after reset or CAL_RESET) the bounds only widen, and under both policies
`c_prev` becomes the byte that CAL_MAP then answers for the sample, and is valid (R130, R135). -/
def Obligations.CalObserveRecordsMappedByte : Prop :=
  ∀ (s : State) (x : Sample), s.Inv → s.configured = true →
    ∃ (t u : State) (m : U9) (conds : List Condition), exec (.calObserve x) s = .next t
      ∧ exec (.calMap x 0 255) t = .next u ∧ t.Answered u (.calMap m) conds
      ∧ t.cal.c_prev.toNat = m.toNat ∧ t.cal.c_prev_valid = true
      ∧ (s.cal.c_prev_valid = false → s.cal.c_set = true →
          t.cal.c_min.toNat = min s.cal.c_min.toNat x.toNat ∧ t.cal.c_max.toNat = max s.cal.c_max.toNat x.toNat)
      ∧ (s.cal.c_set = false → t.cal.c_min = x ∧ t.cal.c_max = x)
      ∧ t.flt = s.flt ∧ t.hist = s.hist ∧ t.g_axis = s.g_axis ∧ t.mode = s.mode

/-- CAL_MAP answers outMin on a degenerate or unset range, and else the clamped rescale by the rounding policy; it
writes no state (R140 to R143). DEGEN_RANGE is traced in the first case (R250; the trace is the model's own, log 2). -/
def Obligations.CalMapAnswersRescale : Prop :=
  ∀ (s : State) (v : Sample) (lo hi : U9), s.Inv → s.configured = true → lo.toNat ≤ hi.toNat →
    ∃ (t : State) (r : U9) (conds : List Condition), exec (.calMap v lo hi) s = .next t
      ∧ s.SameBlock t ∧ s.Answered t (.calMap r) conds
      ∧ (s.cal.c_set = false ∨ s.cal.c_min = s.cal.c_max → r = lo ∧ conds = [.DEGEN_RANGE])
      ∧ (s.cal.c_set = true → s.cal.c_min ≠ s.cal.c_max →
          conds = []
          ∧ ∀ vc span : Nat, vc = min (max v.toNat s.cal.c_min.toNat) s.cal.c_max.toNat →
              span = s.cal.c_max.toNat - s.cal.c_min.toNat →
              (s.cfg.ROUNDING = .TRUNC →
                r.toNat = lo.toNat + (vc - s.cal.c_min.toNat) * (hi.toNat - lo.toNat) / span)
              ∧ (s.cfg.ROUNDING = .HALF_AWAY →
                r.toNat = (2 * scaled vc s.cal.c_min.toNat span lo.toNat hi.toNat + span) / (2 * span)))

/-- R144: the laws of MAPF, for either rounding: the clamping law, both ends exact, monotone, and the two roundings at
most 1 apart. -/
def Obligations.MapfLaws : Prop :=
  ∀ (c : CalRegs) (lo hi : Nat), lo ≤ hi → (c.c_set = true → c.c_min.toNat ≤ c.c_max.toNat) →
    (∀ (r : Rounding) (v : Nat), lo ≤ mapf r c v lo hi ∧ mapf r c v lo hi ≤ hi)
    ∧ (∀ r : Rounding, c.c_set = true → c.c_min.toNat < c.c_max.toNat →
        mapf r c c.c_min.toNat lo hi = lo ∧ mapf r c c.c_max.toNat lo hi = hi)
    ∧ (∀ (r : Rounding) (v w : Nat), v ≤ w → mapf r c v lo hi ≤ mapf r c w lo hi)
    ∧ (∀ v : Nat, mapf .TRUNC c v lo hi ≤ mapf .HALF_AWAY c v lo hi
        ∧ mapf .HALF_AWAY c v lo hi ≤ mapf .TRUNC c v lo hi + 1)

/-- CAL_RESET sets the range to the sample and forgets the previous byte, whatever CAL_INIT is; any CAL_MAP after it
answers outMin (R143, R145). -/
def Obligations.CalResetSetsRange : Prop :=
  ∀ (s : State) (x : Sample), s.configured = true →
    ∃ t, exec (.calReset x) s = .next t ∧ s.Answered t .calReset []
      ∧ t.cal.c_min = x ∧ t.cal.c_max = x ∧ t.cal.c_set = true ∧ t.cal.c_prev = 0 ∧ t.cal.c_prev_valid = false
      ∧ t.flt = s.flt ∧ t.hist = s.hist ∧ t.g_axis = s.g_axis ∧ t.mode = s.mode
      ∧ ∀ (v : Sample) (lo hi : U9), lo.toNat ≤ hi.toNat →
          ∃ u, exec (.calMap v lo hi) t = .next u ∧ t.SameBlock u ∧ t.Answered u (.calMap lo) [.DEGEN_RANGE]

/-! ## VEL_PUSH, VEL_CLEAR -/

/-- R161: the new pair goes to index 0, every other pair moves up one place, and the oldest is lost; exactly N slots. -/
def Obligations.VelPushShiftsHistory : Prop :=
  ∀ (s : State) (a : U9) (t : Millis), s.Inv → s.configured = true → a.toNat < 360 →
    ∃ (u : State) (dth : Disp) (dt : Millis) (conds : List Condition), exec (.velPush a t) s = .next u
      ∧ s.Answered u (.velPush dth dt (decide (dt ≠ 0))) conds
      ∧ u.hist.h_angle.length = s.cfg.N ∧ u.hist.h_ts.length = s.cfg.N
      ∧ u.hist.h_angle.getD 0 0 = a ∧ u.hist.h_ts.getD 0 0 = t
      ∧ (∀ i < s.cfg.N - 1, u.hist.h_angle.getD (i + 1) 0 = s.hist.h_angle.getD i 0
          ∧ u.hist.h_ts.getD (i + 1) 0 = s.hist.h_ts.getD i 0)
      ∧ u.flt = s.flt ∧ u.cal = s.cal ∧ u.g_axis = s.g_axis ∧ u.mode = s.mode

/-- The velocity pair VEL_PUSH answers: the sum of the wrap-corrected steps over the N-1 adjacent pairs, newer minus
older, corrected strictly beyond 180 (R162, R163), the elapsed time modulo 2^32 (R164), and its validity (R165).
DT_ZERO is traced exactly when dt = 0 (R250). -/
def Obligations.VelPushAnswersVelocity : Prop :=
  ∀ (s : State) (a : U9) (t : Millis), s.Inv → s.configured = true → a.toNat < 360 →
    ∃ (u : State) (dth : Disp) (dt : Millis) (delta corrected : Nat → Int), exec (.velPush a t) s = .next u
      ∧ s.Answered u (.velPush dth dt (decide (dt ≠ 0))) (if dt = 0 then [.DT_ZERO] else [])
      ∧ (∀ i, delta i = ((u.hist.h_angle.getD i 0).toNat : Int) - (u.hist.h_angle.getD (i + 1) 0).toNat)
      ∧ (∀ i, corrected i =
          if 180 < delta i then delta i - 360 else if delta i < -180 then delta i + 360 else delta i)
      ∧ (∀ i < s.cfg.N - 1, |corrected i| ≤ 180)
      ∧ dth.toInt = ((List.range (s.cfg.N - 1)).map corrected).sum
      ∧ (dt.toNat : Int) =
          (((u.hist.h_ts.getD 0 0).toNat : Int) - (u.hist.h_ts.getD (s.cfg.N - 1) 0).toNat) % 2 ^ 32

/-- R167: the laws of VEL_PUSH's displacement: zero on a constant window, telescoping when no step needs correction,
bounded by 180 * (N - 1), and WRAP(a) with dt = t on the first push after a cleared history. -/
def Obligations.VelocityLaws : Prop :=
  ∀ (s : State) (a : U9) (t : Millis), s.Inv → s.configured = true → a.toNat < 360 →
    ∃ (u : State) (dth : Disp) (dt : Millis) (conds : List Condition), exec (.velPush a t) s = .next u
      ∧ s.Answered u (.velPush dth dt (decide (dt ≠ 0))) conds
      ∧ ((∀ b ∈ u.hist.h_angle, b = a) → dth = 0)
      ∧ ((∀ i < s.cfg.N - 1,
            |((u.hist.h_angle.getD i 0).toNat : Int) - (u.hist.h_angle.getD (i + 1) 0).toNat| ≤ 180) →
          dth.toInt = (a.toNat : Int) - (u.hist.h_angle.getD (s.cfg.N - 1) 0).toNat)
      ∧ |dth.toInt| ≤ 180 * ((s.cfg.N : Int) - 1) ∧ 180 * (s.cfg.N - 1) ≤ 11340
      ∧ ((∀ b ∈ s.hist.h_angle, b = 0) → (∀ b ∈ s.hist.h_ts, b = 0) →
          dt = t ∧ dth.toInt = if 180 < a.toNat then (a.toNat : Int) - 360 else a.toNat)

/-- R166: VEL_CLEAR zeroes every pair of the history and writes nothing else. -/
def Obligations.VelClearZeroesHistory : Prop :=
  ∀ s : State, s.Inv → s.configured = true →
    ∃ t, exec .velClear s = .next t ∧ s.Answered t .velClear []
      ∧ t.hist.h_angle.length = s.cfg.N ∧ t.hist.h_ts.length = s.cfg.N
      ∧ (∀ a ∈ t.hist.h_angle, a = 0) ∧ (∀ b ∈ t.hist.h_ts, b = 0)
      ∧ t.flt = s.flt ∧ t.cal = s.cal ∧ t.g_axis = s.g_axis ∧ t.mode = s.mode

/-! ## GATE_ACCEPT -/

/-- The gate's decision and write: off, it accepts every tick (R183); on, an undefined velocity rejects (R184) and a
defined one is accepted when its magnitude reaches the threshold as a rational (R182); `g_axis` takes the candidate
exactly on acceptance (R181). -/
def Obligations.GateAcceptsAtThreshold : Prop :=
  ∀ (s : State) (cand : Byte) (dth : Disp) (dt : Millis), s.Inv → s.configured = true →
    ∃ (t : State) (acc : Bool) (conds : List Condition), exec (.gateAccept cand dth dt) s = .next t
      ∧ s.Answered t (.gateAccept acc) conds
      ∧ (s.cfg.GATE_EN = false → acc = true)
      ∧ (s.cfg.GATE_EN = true → dt = 0 → acc = false)
      ∧ (s.cfg.GATE_EN = true → dt ≠ 0 →
          (acc = true ↔ (s.cfg.MIN_SPEED_NUM : ℚ) / s.cfg.MIN_SPEED_DEN ≤ |(dth.toInt : ℚ) / dt.toNat|))
      ∧ t.g_axis = (if acc then cand else s.g_axis)
      ∧ t.flt = s.flt ∧ t.cal = s.cal ∧ t.hist = s.hist ∧ t.mode = s.mode

/-! ## MODE_STEP -/

/-- R195: the held latch: an action fires on the edge, the latch follows the chords, and a held chord changes nothing. -/
def Obligations.LatchIsEdgeTriggered : Prop :=
  ∀ (s : State) (level : Level), s.Inv → s.configured = true →
    ∃ (t : State) (a : Action), exec (.modeStep level) s = .next t ∧ s.Answered t (.modeStep a) []
      ∧ (AnyChordPressed s.cfg level → s.mode.m_latch = false → a ≠ .NONE ∧ t.mode.m_latch = true)
      ∧ (¬ AnyChordPressed s.cfg level → a = .NONE ∧ t.mode.m_latch = false)
      ∧ (AnyChordPressed s.cfg level → s.mode.m_latch = true → a = .NONE ∧ s.SameBlock t)
      ∧ (a = .NONE → t.mode.m_mode = s.mode.m_mode ∧ t.cal = s.cal ∧ t.hist = s.hist)
      ∧ t.flt = s.flt ∧ t.g_axis = s.g_axis

/-- The actions, in the priority toGamepad, toKeyboard, toCalibrate, and their whole effect: a mode switch writes the
mode, Calibrate resets the range to `f_stable` and clears the history (R192, R193, R194). -/
def Obligations.ChordActionsByPriority : Prop :=
  ∀ (s : State) (level : Level), s.Inv → s.configured = true → s.mode.m_latch = false →
    ∃ (t : State) (a : Action), exec (.modeStep level) s = .next t ∧ s.Answered t (.modeStep a) []
      ∧ (ChordPressed level s.cfg.CHORD_GP →
          a = .TO_GP ∧ t.mode.m_mode = .Gamepad ∧ t.cal = s.cal ∧ t.hist = s.hist)
      ∧ (¬ ChordPressed level s.cfg.CHORD_GP → ChordPressed level s.cfg.CHORD_KB →
          a = .TO_KB ∧ t.mode.m_mode = .Keyboard ∧ t.cal = s.cal ∧ t.hist = s.hist)
      ∧ (¬ ChordPressed level s.cfg.CHORD_GP → ¬ ChordPressed level s.cfg.CHORD_KB →
          ChordPressed level s.cfg.CHORD_CAL →
          a = .CAL ∧ t.mode.m_mode = s.mode.m_mode
          ∧ t.cal = { c_set := true, c_min := s.flt.f_stable, c_max := s.flt.f_stable,
                      c_prev := 0, c_prev_valid := false }
          ∧ t.hist.h_angle = List.replicate s.cfg.N 0 ∧ t.hist.h_ts = List.replicate s.cfg.N 0)
      ∧ t.flt = s.flt ∧ t.g_axis = s.g_axis

/-- R197's first two laws: a level that holds a chord for any n ≥ 1 MODE_STEPs from latch false fires exactly one
action; after one step with no chord, holding it again fires once more. (The actions are read from the trace and the
run is the model's own: log 2, log 9.) -/
def Obligations.HeldChordFiresOnce : Prop :=
  ∀ (s : State) (level released : Level) (n m : Nat), s.Inv → s.configured = true → s.mode.m_latch = false →
    AnyChordPressed s.cfg level → ¬ AnyChordPressed s.cfg released →
    ∃ a b : Action, a ≠ .NONE ∧ b ≠ .NONE
      ∧ ((Run.start s).issueAll (List.replicate (n + 1) (encode (.modeStep level)))).mark = none
      ∧ ((Run.start s).issueAll (List.replicate (n + 1) (encode (.modeStep level)))).state.trace
          = s.trace ++ ⟨.modeStep a, []⟩ :: List.replicate n ⟨.modeStep .NONE, []⟩
      ∧ ((Run.start s).issueAll (List.replicate (n + 1) (encode (.modeStep level))
            ++ encode (.modeStep released) :: List.replicate (m + 1) (encode (.modeStep level)))).state.trace
          = s.trace ++ ⟨.modeStep a, []⟩ :: List.replicate n ⟨.modeStep .NONE, []⟩
              ++ ⟨.modeStep .NONE, []⟩ :: ⟨.modeStep b, []⟩ :: List.replicate m ⟨.modeStep .NONE, []⟩

/-! ## BUILD_REPORT -/

/-- The gamepad payload: bitmap low byte first, button i at bit i, bits 11 to 15 zero, then the axis, in both modes; no
state written (R62, R210, R211, R214, R215). -/
def Obligations.GamepadPayloadHoldsBitmapAndAxis : Prop :=
  ∀ (s : State) (level : Level), s.configured = true →
    ∃ (t : State) (b0 b1 : Byte) (kb : List Byte), exec (.buildReport level) s = .next t ∧ s.SameBlock t
      ∧ s.Answered t (.buildReport ⟨[b0, b1, s.g_axis], kb⟩) []
      ∧ (∀ i < 8, b0.getLsbD i = !level.getLsbD i)
      ∧ (∀ i < 3, b1.getLsbD i = !level.getLsbD (8 + i))
      ∧ ∀ i, 3 ≤ i → b1.getLsbD i = false

/-- The keyboard payload: in Gamepad mode six zero bytes; in Keyboard mode the keycodes of the pressed buttons in
increasing index order from slot 0, later ones dropped and empty slots 0, so that exactly min(6, pressed) slots are
nonzero (R212, R213, R216). -/
def Obligations.KeyboardPayloadHasSixSlots : Prop :=
  ∀ (s : State) (level : Level), s.Inv → s.configured = true →
    ∃ (t : State) (gp kb : List Byte), exec (.buildReport level) s = .next t ∧ s.SameBlock t
      ∧ s.Answered t (.buildReport ⟨gp, kb⟩) []
      ∧ (s.mode.m_mode = .Gamepad → kb = [0, 0, 0, 0, 0, 0])
      ∧ (s.mode.m_mode = .Keyboard → KeyboardSlots s.cfg level kb
          ∧ (kb.filter (· ≠ 0)).length = min 6 (lowButtons level).length)

/-! ## TICK -/

/-- TICK does exactly what its components do when issued one by one in R231's order, with the operands R230 gives them,
and hands over the report BUILD_REPORT then answers (R230, R231, R238, D39; outputs are read from the trace, which is the
model's own, log 2). -/
def Obligations.TickIsItsComponents : Prop :=
  ∀ (s : State) (raw : Sample) (level : Level) (now : Millis) (rdy_gp rdy_kb : Bool),
    s.Inv → s.configured = true →
    ∃ (t1 t2 tm ta t3 t4 t5 t6 t : State) (m a360 : U9) (dth : Disp) (dt : Millis) (dvalid acc : Bool) (act : Action)
      (rep : Report) (c1 c2 c3 c4 c5 c6 : List Condition),
      exec (.filter raw) s = .next t1
      ∧ exec (.calObserve t1.flt.f_stable) t1 = .next t2
      ∧ s.trace ++ [⟨.filter t1.flt.f_stable, []⟩, ⟨.calObserve t2.cal.c_min t2.cal.c_max, c1⟩] = t2.trace
      ∧ exec (.calMap t1.flt.f_stable 0 255) t2 = .next tm ∧ t2.Answered tm (.calMap m) c2
      ∧ exec (.calMap t1.flt.f_stable 0 360) t2 = .next ta ∧ t2.Answered ta (.calMap a360) c3
      ∧ exec (.velPush (BitVec.ofNat 9 (a360.toNat % 360)) now) t2 = .next t3
      ∧ t2.Answered t3 (.velPush dth dt dvalid) c4
      ∧ exec (.gateAccept (BitVec.ofNat 8 m.toNat) dth dt) t3 = .next t4 ∧ t3.Answered t4 (.gateAccept acc) c5
      ∧ exec (.modeStep level) t4 = .next t5 ∧ t4.Answered t5 (.modeStep act) []
      ∧ exec (.buildReport level) t5 = .next t6 ∧ t5.Answered t6 (.buildReport rep) []
      ∧ exec (.tick raw level now rdy_gp rdy_kb) s = .next t ∧ t5.SameBlock t
      ∧ s.Answered t (.tick ⟨rdy_gp, rep.gp_bytes, rdy_kb, rep.kb_bytes⟩) c6

/-- R234: TICK updates the same state whatever the channels' readiness; R238: it submits to exactly the ready channels,
the Gamepad payload before the Keyboard payload. -/
def Obligations.TickSubmitsToReadyChannels : Prop :=
  ∀ (s : State) (raw : Sample) (level : Level) (now : Millis), s.configured = true →
    ∃ gp kb : List Byte, ∀ rdy_gp rdy_kb : Bool,
      ∃ (t u : State) (p : Ports) (conds : List Condition), exec (.tick raw level now rdy_gp rdy_kb) s = .next t
        ∧ s.Answered t (.tick p) conds
        ∧ p.sub_gp = rdy_gp ∧ p.sub_kb = rdy_kb ∧ p.gp_bytes = gp ∧ p.kb_bytes = kb
        ∧ submits p = (if rdy_gp then [(.Gamepad, gp)] else []) ++ (if rdy_kb then [(.Keyboard, kb)] else [])
        ∧ exec (.tick raw level now false false) s = .next u ∧ u.SameBlock t

/-- The button path depends on nothing in the analog path: two ticks with the same levels, from states with the same
record and mode, leave the same mode and latch and drive the same bitmap and keyboard bytes (R231). -/
def Obligations.ButtonPathIgnoresAnalogPath : Prop :=
  ∀ (s s' : State) (raw raw' : Sample) (level : Level) (now now' : Millis) (g k g' k' : Bool),
    s.configured = true → s'.configured = true → s'.cfg = s.cfg → s'.mode = s.mode →
    ∃ (t t' : State) (b0 b1 x x' : Byte) (kb : List Byte) (c c' : List Condition),
      exec (.tick raw level now g k) s = .next t ∧ exec (.tick raw' level now' g' k') s' = .next t'
      ∧ t'.mode = t.mode
      ∧ s.Answered t (.tick ⟨g, [b0, b1, x], k, kb⟩) c ∧ s'.Answered t' (.tick ⟨g', [b0, b1, x'], k', kb⟩) c'

/-- R232: a toKeyboard chord on a tick with the latch clear switches the mode before this tick's report is built, which
already carries the keycodes of the pressed buttons; a toGamepad chord empties it. -/
def Obligations.ModeSwitchShowsInSameTick : Prop :=
  ∀ (s : State) (raw : Sample) (level : Level) (now : Millis) (g k : Bool),
    s.Inv → s.configured = true → s.mode.m_latch = false →
    ∃ (t : State) (gp kb : List Byte) (c : List Condition), exec (.tick raw level now g k) s = .next t
      ∧ s.Answered t (.tick ⟨g, gp, k, kb⟩) c
      ∧ (ChordPressed level s.cfg.CHORD_GP → t.mode.m_mode = .Gamepad ∧ kb = [0, 0, 0, 0, 0, 0])
      ∧ (¬ ChordPressed level s.cfg.CHORD_GP → ChordPressed level s.cfg.CHORD_KB →
          t.mode.m_mode = .Keyboard ∧ KeyboardSlots s.cfg level kb ∧ 3 ≤ (kb.filter (· ≠ 0)).length)

/-- R233: the tick on which Calibrate fires publishes the axis of the range before the reset, as the same tick without a
chord would; the reset range and the cleared history are what it leaves for the next tick. -/
def Obligations.CalibrateActsFromNextTick : Prop :=
  ∀ (s : State) (raw : Sample) (level quiet : Level) (now : Millis) (g k : Bool),
    s.Inv → s.configured = true → s.mode.m_latch = false →
    ¬ ChordPressed level s.cfg.CHORD_GP → ¬ ChordPressed level s.cfg.CHORD_KB → ChordPressed level s.cfg.CHORD_CAL →
    ¬ AnyChordPressed s.cfg quiet →
    ∃ (t u : State) (x : Byte) (bt bu kt ku : List Byte) (ct cu : List Condition),
      exec (.tick raw level now g k) s = .next t ∧ exec (.tick raw quiet now g k) s = .next u
      ∧ s.Answered t (.tick ⟨g, bt ++ [x], k, kt⟩) ct ∧ s.Answered u (.tick ⟨g, bu ++ [x], k, ku⟩) cu
      ∧ t.g_axis = x ∧ u.g_axis = x ∧ t.flt = u.flt
      ∧ t.cal.c_min = t.flt.f_stable ∧ t.cal.c_max = t.flt.f_stable ∧ t.cal.c_prev_valid = false
      ∧ (∀ b ∈ t.hist.h_angle, b = 0) ∧ (∀ b ∈ t.hist.h_ts, b = 0)
      ∧ u.hist.h_ts.getD 0 0 = now

/-- The first TICK after reset, with an unset range, a prefilled window and no chord: the filter and the range are seeded
with the sample, byte and angle are 0, and the elapsed time the gate sees is `now` (R230's corner cases, R112, R143).
That its several degenerate maps trace DEGEN_RANGE once, and before DT_ZERO, is the model's choice (log 13), as is the
trace itself (log 2): R250 gives neither a count nor an order. The other first ticks are
`FirstTickFollowsRecordAndChord`'s. -/
def Obligations.FirstTickSeedsFilterAndRange : Prop :=
  ∀ (s : State) (raw : Sample) (level : Level) (now : Millis) (g k : Bool),
    s.Inv → s.configured = true → s.AtReset → s.cfg.CAL_INIT = .UNSET → s.cfg.WARMUP = .PREFILL →
    ¬ AnyChordPressed s.cfg level →
    ∃ (t : State) (p : Ports), exec (.tick raw level now g k) s = .next t
      ∧ s.Answered t (.tick p) (.DEGEN_RANGE :: if now = 0 then [.DT_ZERO] else [])
      ∧ t.flt.f_stable = raw ∧ t.cal.c_set = true ∧ t.cal.c_min = raw ∧ t.cal.c_max = raw
      ∧ t.cal.c_prev = 0 ∧ t.cal.c_prev_valid = true ∧ t.g_axis = 0
      ∧ t.hist.h_angle = List.replicate s.cfg.N 0 ∧ t.hist.h_ts = now :: List.replicate (s.cfg.N - 1) 0

/-- With the gate off the axis follows the mapped value directly (R183): after a TICK that does not calibrate, `g_axis`
is the byte recorded as `c_prev`. -/
def Obligations.GateOffAxisFollowsMappedByte : Prop :=
  ∀ (s : State) (raw : Sample) (level : Level) (now : Millis) (g k : Bool),
    s.Inv → s.configured = true → s.cfg.GATE_EN = false → ¬ ChordPressed level s.cfg.CHORD_CAL →
    ∃ t, exec (.tick raw level now g k) s = .next t ∧ t.g_axis = t.cal.c_prev ∧ t.cal.c_prev_valid = true

/-- R276: with the gate on, when `now` is the same for all N pushes of the window the axis freezes. -/
def Obligations.StalledClockFreezesAxis : Prop :=
  ∀ (s : State) (raw : Sample) (level : Level) (now : Millis) (g k : Bool),
    s.Inv → s.configured = true → s.cfg.GATE_EN = true → (∀ i < s.cfg.N - 1, s.hist.h_ts.getD i 0 = now) →
    ∃ t, exec (.tick raw level now g k) s = .next t ∧ t.g_axis = s.g_axis

/-! ## CONFIGURE and POR -/

/-- R21: CONFIGURE accepts exactly the records in the table's ranges, and refuses every other with BAD_CONFIG. -/
def Obligations.ConfigureAcceptsExactlyLegalRecords : Prop :=
  ∀ (r : CfgRecord) (s : State),
    (LegalRecord r → ∃ t, exec (.configure r) s = .next t ∧ t.cfg = r)
    ∧ (¬ LegalRecord r → exec (.configure r) s = .refused .badConfig)

/-- R45: after a CONFIGURE that accepts, and after POR, every element holds its reset value; CONFIGURE sets the record
and `configured` (R235), POR leaves both (R237); before the first CONFIGURE `configured` is false. -/
def Obligations.ResetTableHolds : Prop :=
  State.reset.configured = false
  ∧ (∀ (r : CfgRecord) (s : State), LegalRecord r →
    ∃ t, exec (.configure r) s = .next t ∧ t.AtReset ∧ t.cfg = r ∧ t.configured = true
      ∧ t.inbox = s.inbox ∧ t.trace = s.trace ++ [⟨.configure, []⟩])
  ∧ ∀ s : State, s.Inv → s.configured = true →
    ∃ t, exec .por s = .next t ∧ t.AtReset ∧ s.Answered t .por []

/-- POR gives the block that a CONFIGURE with the same record gives, and any operation after either answers alike
(R237's worked example, R271). -/
def Obligations.PorEqualsReconfigure : Prop :=
  ∀ (s : State) (i : Instr), s.Inv → s.configured = true →
    ∃ t u, exec .por s = .next t ∧ exec (.configure s.cfg) s = .next u ∧ t.SameBlock u
      ∧ ∀ t', exec i t = .next t' → ∃ u', exec i u = .next u' ∧ t'.SameBlock u'

/-- R10: a preset fixes only ROUNDING and GATE_EN, and keeps a legal record legal. -/
def Obligations.PresetFixesTwoFields : Prop :=
  ∀ c : CfgRecord,
    applyPreset .PRECISE c = { c with ROUNDING := .HALF_AWAY, GATE_EN := true }
    ∧ applyPreset .SIMPLE c = { c with ROUNDING := .TRUNC, GATE_EN := false }
    ∧ ∀ p, LegalRecord (applyPreset p c) ↔ LegalRecord c

/-! ## The first TICK of every record -/

/-- The first TICK after reset for every record and level (R112, R131, R230, R233): `f_stable` by WARMUP; an unset range
becomes that sample and a preset one is widened by it, with a valid previous byte and `now` newest in a history still
zero behind it; unless the tick calibrates, which leaves the range at `f_stable` and the history zero. The axis stays 0
with an unset range, and with the gate on at `now` = 0. Latch and mode follow the chords. -/
def Obligations.FirstTickFollowsRecordAndChord : Prop :=
  ∀ (s : State) (raw : Sample) (level : Level) (now : Millis) (g k calibrates : Bool),
    s.Inv → s.configured = true → s.AtReset →
    (calibrates = true ↔ ChordPressed level s.cfg.CHORD_CAL
      ∧ ¬ ChordPressed level s.cfg.CHORD_GP ∧ ¬ ChordPressed level s.cfg.CHORD_KB) →
    ∃ t : State, exec (.tick raw level now g k) s = .next t
      ∧ t.flt.f_seeded = true
      ∧ (s.cfg.WARMUP = .PREFILL → t.flt.f_stable = raw)
      ∧ (s.cfg.WARMUP = .ZEROFILL → t.flt.f_stable.toNat = raw.toNat / s.cfg.K)
      ∧ t.cal.c_set = true
      ∧ (calibrates = false →
          (s.cfg.CAL_INIT = .UNSET → t.cal.c_min = t.flt.f_stable ∧ t.cal.c_max = t.flt.f_stable)
          ∧ (∀ lo hi, s.cfg.CAL_INIT = .PRESET lo hi →
              t.cal.c_min.toNat = min lo t.flt.f_stable.toNat ∧ t.cal.c_max.toNat = max hi t.flt.f_stable.toNat)
          ∧ t.cal.c_prev_valid = true
          ∧ t.hist.h_angle.drop 1 = List.replicate (s.cfg.N - 1) 0
          ∧ t.hist.h_ts = now :: List.replicate (s.cfg.N - 1) 0)
      ∧ (calibrates = true →
          t.cal = { c_set := true, c_min := t.flt.f_stable, c_max := t.flt.f_stable, c_prev := 0, c_prev_valid := false }
          ∧ t.hist.h_angle = List.replicate s.cfg.N 0 ∧ t.hist.h_ts = List.replicate s.cfg.N 0)
      ∧ (s.cfg.CAL_INIT = .UNSET → t.g_axis = 0)
      ∧ (s.cfg.GATE_EN = true → now = 0 → t.g_axis = 0)
      ∧ (t.mode.m_latch = true ↔ AnyChordPressed s.cfg level)
      ∧ (t.mode.m_mode = .Keyboard ↔ ChordPressed level s.cfg.CHORD_KB ∧ ¬ ChordPressed level s.cfg.CHORD_GP)
end

