-- ==== Sys2Proof/Laws/Decode.lean ====
section
/-! SUPPORT. Fields and words, bit by bit: what `bits`, `place` and `decode` do, cited instead of unfolding them. -/

namespace Sys2Proof

/-- Bit j of a field taken out of a word. -/
theorem getLsbD_bits (w : CommandWord) (lo n j : Nat) :
    (bits w lo n).getLsbD j = (decide (j < n) && w.getLsbD (lo + j)) := by
  simp [bits]

/-- Bit j of a field placed in a word. -/
theorem getLsbD_place {n : Nat} (v : BitVec n) (lo j : Nat) :
    (place n v lo).getLsbD j = (decide (j < 64) && decide (lo ≤ j) && v.getLsbD (j - lo)) := by
  simp only [place, BitVec.getLsbD_shiftLeft, BitVec.getLsbD_setWidth, ← decide_not, Nat.not_lt]
  by_cases hj : j < 64
  · have : j - lo < 64 := by omega
    simp [hj, this]
  · simp [hj]

/-- Bit j of a single-bit field placed in a word. -/
theorem getLsbD_placeBit {b : Bool} {lo j : Nat} (h : lo < 64) :
    (placeBit b lo).getLsbD j = (decide (j = lo) && b) := by
  rw [placeBit, getLsbD_place]
  by_cases hj : j = lo
  · subst hj; simp [h]
  · by_cases hl : lo ≤ j
    · have : j - lo ≠ 0 := by omega
      simp [hj, BitVec.getLsbD_ofBool, this]
    · simp [hj, hl]

/-- A field taken out and placed back is the word's own bits in that range. -/
theorem getLsbD_place_bits (w : CommandWord) (lo n j : Nat) :
    (place n (bits w lo n) lo).getLsbD j = (decide (lo ≤ j) && decide (j < lo + n) && w.getLsbD j) := by
  rw [getLsbD_place, getLsbD_bits]
  by_cases hl : lo ≤ j
  · rw [Nat.add_sub_cancel' hl]
    by_cases hn : j < lo + n
    · have : j - lo < n := by omega
      by_cases hj : j < 64
      · simp [hl, hn, this, hj]
      · simp [hl, hn, this, BitVec.getLsbD_of_ge w j (by omega)]
    · have : ¬ j - lo < n := by omega
      simp [hl, hn, this]
  · simp [hl]

/-- A placed field read back. -/
theorem bits_place {n : Nat} (v : BitVec n) {lo : Nat} (h : lo + n ≤ 64) : bits (place n v lo) lo n = v := by
  apply BitVec.eq_of_getLsbD_eq
  intro j hj
  rw [getLsbD_bits, getLsbD_place]
  have : lo + j < 64 := by omega
  simp [hj, this]

/-- Where a mask has a bit, a word whose masked bits are zero has none. -/
theorem getLsbD_of_and_eq_zero {w m : CommandWord} (h : w &&& m = 0) {j : Nat} (hm : m.getLsbD j = true) :
    w.getLsbD j = false := by
  simpa [hm] using congrArg (fun x => x.getLsbD j) h

/-- The op field names an opcode exactly when it is that opcode's code (R81). -/
theorem opcodeOf_eq_some_iff (w : CommandWord) (o : Opcode) : opcodeOf w = some o ↔ bits w 0 4 = opcodeCode o := by
  unfold opcodeOf
  generalize bits w 0 4 = b
  revert b
  cases o <;> decide

/-- All that `decode` accepts: an opcode by its code, no reserved bit of its format, the operands from its fields. -/
theorem decode_eq_ok_iff {c : Command} {i : Instr} :
    decode c = .ok i ↔ ∃ o, bits c.word 0 4 = opcodeCode o
      ∧ c.word &&& reservedMask (opcodeFormat o) = 0 ∧ assembleOperands c o = i := by
  constructor
  · intro h
    unfold decode at h
    split at h
    · cases h
    · rename_i o ho
      split at h
      · rename_i hm
        exact ⟨o, (opcodeOf_eq_some_iff _ _).mp ho, hm, by simpa using h⟩
      · cases h
  · rintro ⟨o, ho, hm, rfl⟩
    simp only [decode, (opcodeOf_eq_some_iff _ _).mpr ho, hm, if_true]

/-- The operation that a decoded word's opcode names. -/
theorem opcodeOfInstr_assembleOperands (c : Command) (o : Opcode) : opcodeOfInstr (assembleOperands c o) = o := by
  cases o <;> rfl

end Sys2Proof
end

