-- ==== Sys2Proof/Laws/Ops.lean ====
section
/-! SUPPORT. What the shared operations of Machine/Ops.lean, Machine/Operands.lean and Machine/Flags.lean can do: one
lemma per operation, cited instead of unfolding it. -/

namespace Sys2Proof

/-! ## Operands -/

@[simp] theorem zext_eq_toNat (n : Nat) (v : BitVec n) : zext n v = v.toNat := rfl

@[simp] theorem sext_eq_toInt (v : Disp) : sext v = v.toInt := rfl

theorem pressed_iff_low {i : Nat} (hi : i < numButtons) (level : Level) :
    pressed level i = true ↔ level.getLsbD i = false := by
  simp [pressed, hi]

theorem chordHeld_iff_low (level : Level) {chord : List Nat} (h : ∀ j ∈ chord, j < numButtons) :
    chordHeld level chord = true ↔ ∀ j ∈ chord, level.getLsbD j = false := by
  simp only [chordHeld, List.all_eq_true]
  exact forall₂_congr fun j hj => pressed_iff_low (h j hj) level

theorem mem_pressedButtons {level : Level} {i : Nat} :
    i ∈ pressedButtons level ↔ i < numButtons ∧ pressed level i = true := by
  simp only [pressedButtons, List.mem_filter, List.mem_range]

namespace Machine

/-! ## Admission -/

/-- All that `perform` can answer when it goes on. -/
theorem perform_next_iff {s after t : State} {inRange : Bool} {output : Output} {conditions : List Condition} :
    perform s inRange after output conditions = .next t ↔
      s.configured = true ∧ inRange = true ∧ t = after.emit output conditions := by
  unfold perform
  cases s.configured <;> cases inRange <;> simp [@eq_comm _ t]

/-- All that `perform` can refuse, in the order of R252. -/
theorem perform_refused_iff {s after : State} {inRange : Bool} {output : Output} {conditions : List Condition}
    {why : Refusal} :
    perform s inRange after output conditions = .refused why ↔
      (s.configured = false ∧ why = .unconfigured)
      ∨ (s.configured = true ∧ inRange = false ∧ why = .operandRange) := by
  unfold perform
  cases s.configured <;> cases inRange <;> simp [@eq_comm _ why]

/-- A configured block does an operation whose operands are in range. -/
theorem perform_next {s : State} {inRange : Bool} (hc : s.configured = true) (hr : inRange = true) (after : State)
    (output : Output) (conditions : List Condition) :
    perform s inRange after output conditions = .next (after.emit output conditions) :=
  perform_next_iff.mpr ⟨hc, hr, rfl⟩

/-! ## Numbers -/

theorem clamp_mem {v lo hi : Nat} (h : lo ≤ hi) : lo ≤ clamp v lo hi ∧ clamp v lo hi ≤ hi := by
  unfold clamp; omega

/-- RHA on naturals is one floor division (R12). -/
theorem rha_natCast (n d : Nat) : rha (n : Int) (d : Int) = ((2 * n + d) / (2 * d) : Nat) := by
  simp [rha]

theorem sampleMin_toNat (a b : Sample) : (sampleMin a b).toNat = min a.toNat b.toNat := by
  rw [sampleMin]; split <;> simp only [zext_eq_toNat] at * <;> omega

theorem sampleMax_toNat (a b : Sample) : (sampleMax a b).toNat = max a.toNat b.toNat := by
  rw [sampleMax]; split <;> simp only [zext_eq_toNat] at * <;> omega

/-- The map of a degenerate or unset range (R143). -/
theorem mapf_of_degen {c : CalRegs} (h : degenRange c = true) (r : Rounding) (v lo hi : Nat) :
    mapf r c v lo hi = lo := by
  simp [mapf, h]

/-- The TRUNC map of a range with a span (R141). -/
theorem mapf_trunc {c : CalRegs} (h : degenRange c = false) (v lo hi : Nat) :
    mapf .TRUNC c v lo hi =
      lo + (clamp v c.c_min.toNat c.c_max.toNat - c.c_min.toNat) * (hi - lo) / (c.c_max.toNat - c.c_min.toNat) := by
  simp [mapf, h]

/-- The HALF_AWAY map of a range with a span, as one floor division (R142). -/
theorem mapf_halfAway {c : CalRegs} (h : degenRange c = false) (v lo hi : Nat) :
    mapf .HALF_AWAY c v lo hi =
      (2 * ((clamp v c.c_min.toNat c.c_max.toNat - c.c_min.toNat) * (hi - lo)
          + lo * (c.c_max.toNat - c.c_min.toNat)) + (c.c_max.toNat - c.c_min.toNat))
        / (2 * (c.c_max.toNat - c.c_min.toNat)) := by
  simp only [mapf, h, zext_eq_toNat, rha_natCast, Int.toNat_natCast]
  rfl

/-- A range that is set, ordered and not degenerate has a positive span. -/
theorem degenRange_eq_false_iff {c : CalRegs} :
    degenRange c = false ↔ c.c_set = true ∧ c.c_min ≠ c.c_max := by
  simp [degenRange]

theorem shiftIn_length {α : Type} {n : Nat} (x : α) {xs : List α} (h : xs.length = n) :
    (shiftIn n x xs).length = n := by
  simp [shiftIn, h]

/-! ## The latch and the trace -/

/-- After MODE_STEP the latch says whether a chord is held (R195). -/
theorem nextLatch_eq_anyChord (c : Chords) (latch : Bool) : nextLatch c latch = anyChord c := by
  unfold nextLatch; cases anyChord c <;> cases latch <;> rfl

theorem mem_condWhen {holds : Bool} {c d : Condition} : d ∈ condWhen holds c ↔ holds = true ∧ d = c := by
  unfold condWhen; split <;> simp_all

end Machine

end Sys2Proof
end

