-- ==== Sys2Proof/Laws/State.lean ====
section
/-! SUPPORT. One lemma per field per update of State, each true by unfolding the update, so that no later proof unfolds
a record update. -/

namespace Sys2Proof.Machine

variable (s : State)

/-! ### State.emit -/

@[simp] theorem State.emit_cfg (output : Output) (conditions : List Condition) :
    (s.emit output conditions).cfg = s.cfg := rfl
@[simp] theorem State.emit_configured (output : Output) (conditions : List Condition) :
    (s.emit output conditions).configured = s.configured := rfl
@[simp] theorem State.emit_flt (output : Output) (conditions : List Condition) :
    (s.emit output conditions).flt = s.flt := rfl
@[simp] theorem State.emit_cal (output : Output) (conditions : List Condition) :
    (s.emit output conditions).cal = s.cal := rfl
@[simp] theorem State.emit_hist (output : Output) (conditions : List Condition) :
    (s.emit output conditions).hist = s.hist := rfl
@[simp] theorem State.emit_g_axis (output : Output) (conditions : List Condition) :
    (s.emit output conditions).g_axis = s.g_axis := rfl
@[simp] theorem State.emit_mode (output : Output) (conditions : List Condition) :
    (s.emit output conditions).mode = s.mode := rfl
@[simp] theorem State.emit_inbox (output : Output) (conditions : List Condition) :
    (s.emit output conditions).inbox = s.inbox := rfl
@[simp] theorem State.emit_trace (output : Output) (conditions : List Condition) :
    (s.emit output conditions).trace = s.trace ++ [⟨output, conditions⟩] := rfl

/-! ### State.take -/

@[simp] theorem State.take_cfg : (s.take).cfg = s.cfg := rfl
@[simp] theorem State.take_configured : (s.take).configured = s.configured := rfl
@[simp] theorem State.take_flt : (s.take).flt = s.flt := rfl
@[simp] theorem State.take_cal : (s.take).cal = s.cal := rfl
@[simp] theorem State.take_hist : (s.take).hist = s.hist := rfl
@[simp] theorem State.take_g_axis : (s.take).g_axis = s.g_axis := rfl
@[simp] theorem State.take_mode : (s.take).mode = s.mode := rfl
@[simp] theorem State.take_inbox : (s.take).inbox = s.inbox.tail := rfl
@[simp] theorem State.take_trace : (s.take).trace = s.trace := rfl

/-! ### State.issueFirst -/

@[simp] theorem State.issueFirst_cfg (c : Command) : (s.issueFirst c).cfg = s.cfg := rfl
@[simp] theorem State.issueFirst_configured (c : Command) : (s.issueFirst c).configured = s.configured := rfl
@[simp] theorem State.issueFirst_flt (c : Command) : (s.issueFirst c).flt = s.flt := rfl
@[simp] theorem State.issueFirst_cal (c : Command) : (s.issueFirst c).cal = s.cal := rfl
@[simp] theorem State.issueFirst_hist (c : Command) : (s.issueFirst c).hist = s.hist := rfl
@[simp] theorem State.issueFirst_g_axis (c : Command) : (s.issueFirst c).g_axis = s.g_axis := rfl
@[simp] theorem State.issueFirst_mode (c : Command) : (s.issueFirst c).mode = s.mode := rfl
@[simp] theorem State.issueFirst_inbox (c : Command) : (s.issueFirst c).inbox = c :: s.inbox := rfl
@[simp] theorem State.issueFirst_trace (c : Command) : (s.issueFirst c).trace = s.trace := rfl

/-! ### State.runFilter -/

@[simp] theorem State.runFilter_cfg (raw : Sample) : (s.runFilter raw).cfg = s.cfg := rfl
@[simp] theorem State.runFilter_configured (raw : Sample) : (s.runFilter raw).configured = s.configured := rfl
@[simp] theorem State.runFilter_flt (raw : Sample) : (s.runFilter raw).flt = filterRegs s.cfg s.flt raw := rfl
@[simp] theorem State.runFilter_cal (raw : Sample) : (s.runFilter raw).cal = s.cal := rfl
@[simp] theorem State.runFilter_hist (raw : Sample) : (s.runFilter raw).hist = s.hist := rfl
@[simp] theorem State.runFilter_g_axis (raw : Sample) : (s.runFilter raw).g_axis = s.g_axis := rfl
@[simp] theorem State.runFilter_mode (raw : Sample) : (s.runFilter raw).mode = s.mode := rfl
@[simp] theorem State.runFilter_inbox (raw : Sample) : (s.runFilter raw).inbox = s.inbox := rfl
@[simp] theorem State.runFilter_trace (raw : Sample) : (s.runFilter raw).trace = s.trace := rfl

/-! ### State.runObserve -/

@[simp] theorem State.runObserve_cfg (x : Sample) : (s.runObserve x).cfg = s.cfg := rfl
@[simp] theorem State.runObserve_configured (x : Sample) : (s.runObserve x).configured = s.configured := rfl
@[simp] theorem State.runObserve_flt (x : Sample) : (s.runObserve x).flt = s.flt := rfl
@[simp] theorem State.runObserve_cal (x : Sample) : (s.runObserve x).cal = observeRegs s.cfg s.cal x := rfl
@[simp] theorem State.runObserve_hist (x : Sample) : (s.runObserve x).hist = s.hist := rfl
@[simp] theorem State.runObserve_g_axis (x : Sample) : (s.runObserve x).g_axis = s.g_axis := rfl
@[simp] theorem State.runObserve_mode (x : Sample) : (s.runObserve x).mode = s.mode := rfl
@[simp] theorem State.runObserve_inbox (x : Sample) : (s.runObserve x).inbox = s.inbox := rfl
@[simp] theorem State.runObserve_trace (x : Sample) : (s.runObserve x).trace = s.trace := rfl

/-! ### State.runCalReset -/

@[simp] theorem State.runCalReset_cfg (x : Sample) : (s.runCalReset x).cfg = s.cfg := rfl
@[simp] theorem State.runCalReset_configured (x : Sample) : (s.runCalReset x).configured = s.configured := rfl
@[simp] theorem State.runCalReset_flt (x : Sample) : (s.runCalReset x).flt = s.flt := rfl
@[simp] theorem State.runCalReset_cal (x : Sample) : (s.runCalReset x).cal = calResetRegs x := rfl
@[simp] theorem State.runCalReset_hist (x : Sample) : (s.runCalReset x).hist = s.hist := rfl
@[simp] theorem State.runCalReset_g_axis (x : Sample) : (s.runCalReset x).g_axis = s.g_axis := rfl
@[simp] theorem State.runCalReset_mode (x : Sample) : (s.runCalReset x).mode = s.mode := rfl
@[simp] theorem State.runCalReset_inbox (x : Sample) : (s.runCalReset x).inbox = s.inbox := rfl
@[simp] theorem State.runCalReset_trace (x : Sample) : (s.runCalReset x).trace = s.trace := rfl

/-! ### State.runVelPush -/

@[simp] theorem State.runVelPush_cfg (a : U9) (t : Millis) : (s.runVelPush a t).cfg = s.cfg := rfl
@[simp] theorem State.runVelPush_configured (a : U9) (t : Millis) :
    (s.runVelPush a t).configured = s.configured := rfl
@[simp] theorem State.runVelPush_flt (a : U9) (t : Millis) : (s.runVelPush a t).flt = s.flt := rfl
@[simp] theorem State.runVelPush_cal (a : U9) (t : Millis) : (s.runVelPush a t).cal = s.cal := rfl
@[simp] theorem State.runVelPush_hist (a : U9) (t : Millis) :
    (s.runVelPush a t).hist = pushRegs s.cfg s.hist a t := rfl
@[simp] theorem State.runVelPush_g_axis (a : U9) (t : Millis) : (s.runVelPush a t).g_axis = s.g_axis := rfl
@[simp] theorem State.runVelPush_mode (a : U9) (t : Millis) : (s.runVelPush a t).mode = s.mode := rfl
@[simp] theorem State.runVelPush_inbox (a : U9) (t : Millis) : (s.runVelPush a t).inbox = s.inbox := rfl
@[simp] theorem State.runVelPush_trace (a : U9) (t : Millis) : (s.runVelPush a t).trace = s.trace := rfl

/-! ### State.runVelClear -/

@[simp] theorem State.runVelClear_cfg : (s.runVelClear).cfg = s.cfg := rfl
@[simp] theorem State.runVelClear_configured : (s.runVelClear).configured = s.configured := rfl
@[simp] theorem State.runVelClear_flt : (s.runVelClear).flt = s.flt := rfl
@[simp] theorem State.runVelClear_cal : (s.runVelClear).cal = s.cal := rfl
@[simp] theorem State.runVelClear_hist : (s.runVelClear).hist = clearedHist s.cfg := rfl
@[simp] theorem State.runVelClear_g_axis : (s.runVelClear).g_axis = s.g_axis := rfl
@[simp] theorem State.runVelClear_mode : (s.runVelClear).mode = s.mode := rfl
@[simp] theorem State.runVelClear_inbox : (s.runVelClear).inbox = s.inbox := rfl
@[simp] theorem State.runVelClear_trace : (s.runVelClear).trace = s.trace := rfl

/-! ### State.runGate -/

@[simp] theorem State.runGate_cfg (cand : Byte) (dth : Disp) (dt : Millis) :
    (s.runGate cand dth dt).cfg = s.cfg := rfl
@[simp] theorem State.runGate_configured (cand : Byte) (dth : Disp) (dt : Millis) :
    (s.runGate cand dth dt).configured = s.configured := rfl
@[simp] theorem State.runGate_flt (cand : Byte) (dth : Disp) (dt : Millis) :
    (s.runGate cand dth dt).flt = s.flt := rfl
@[simp] theorem State.runGate_cal (cand : Byte) (dth : Disp) (dt : Millis) :
    (s.runGate cand dth dt).cal = s.cal := rfl
@[simp] theorem State.runGate_hist (cand : Byte) (dth : Disp) (dt : Millis) :
    (s.runGate cand dth dt).hist = s.hist := rfl
@[simp] theorem State.runGate_g_axis (cand : Byte) (dth : Disp) (dt : Millis) :
    (s.runGate cand dth dt).g_axis = if gateAccepts s.cfg dth dt then cand else s.g_axis := rfl
@[simp] theorem State.runGate_mode (cand : Byte) (dth : Disp) (dt : Millis) :
    (s.runGate cand dth dt).mode = s.mode := rfl
@[simp] theorem State.runGate_inbox (cand : Byte) (dth : Disp) (dt : Millis) :
    (s.runGate cand dth dt).inbox = s.inbox := rfl
@[simp] theorem State.runGate_trace (cand : Byte) (dth : Disp) (dt : Millis) :
    (s.runGate cand dth dt).trace = s.trace := rfl

/-! ### State.calibrate -/

@[simp] theorem State.calibrate_cfg : (s.calibrate).cfg = s.cfg := rfl
@[simp] theorem State.calibrate_configured : (s.calibrate).configured = s.configured := rfl
@[simp] theorem State.calibrate_flt : (s.calibrate).flt = s.flt := rfl
@[simp] theorem State.calibrate_cal : (s.calibrate).cal = calResetRegs s.flt.f_stable := rfl
@[simp] theorem State.calibrate_hist : (s.calibrate).hist = clearedHist s.cfg := rfl
@[simp] theorem State.calibrate_g_axis : (s.calibrate).g_axis = s.g_axis := rfl
@[simp] theorem State.calibrate_mode : (s.calibrate).mode = s.mode := rfl
@[simp] theorem State.calibrate_inbox : (s.calibrate).inbox = s.inbox := rfl
@[simp] theorem State.calibrate_trace : (s.calibrate).trace = s.trace := rfl

/-! ### State.powerOnReset -/

@[simp] theorem State.powerOnReset_cfg : (s.powerOnReset).cfg = s.cfg := rfl
@[simp] theorem State.powerOnReset_configured : (s.powerOnReset).configured = s.configured := rfl
@[simp] theorem State.powerOnReset_flt : (s.powerOnReset).flt = resetFilter s.cfg := rfl
@[simp] theorem State.powerOnReset_cal : (s.powerOnReset).cal = resetCal s.cfg := rfl
@[simp] theorem State.powerOnReset_hist : (s.powerOnReset).hist = clearedHist s.cfg := rfl
@[simp] theorem State.powerOnReset_g_axis : (s.powerOnReset).g_axis = 0 := rfl
@[simp] theorem State.powerOnReset_mode : (s.powerOnReset).mode = { m_mode := .Gamepad, m_latch := false } := rfl
@[simp] theorem State.powerOnReset_inbox : (s.powerOnReset).inbox = s.inbox := rfl
@[simp] theorem State.powerOnReset_trace : (s.powerOnReset).trace = s.trace := rfl

/-! ### State.accept -/

@[simp] theorem State.accept_cfg (newcfg : CfgRecord) : (s.accept newcfg).cfg = newcfg := rfl
@[simp] theorem State.accept_configured (newcfg : CfgRecord) : (s.accept newcfg).configured = true := rfl
@[simp] theorem State.accept_flt (newcfg : CfgRecord) : (s.accept newcfg).flt = resetFilter newcfg := rfl
@[simp] theorem State.accept_cal (newcfg : CfgRecord) : (s.accept newcfg).cal = resetCal newcfg := rfl
@[simp] theorem State.accept_hist (newcfg : CfgRecord) : (s.accept newcfg).hist = clearedHist newcfg := rfl
@[simp] theorem State.accept_g_axis (newcfg : CfgRecord) : (s.accept newcfg).g_axis = 0 := rfl
@[simp] theorem State.accept_mode (newcfg : CfgRecord) :
    (s.accept newcfg).mode = { m_mode := .Gamepad, m_latch := false } := rfl
@[simp] theorem State.accept_inbox (newcfg : CfgRecord) : (s.accept newcfg).inbox = s.inbox := rfl
@[simp] theorem State.accept_trace (newcfg : CfgRecord) : (s.accept newcfg).trace = s.trace := rfl

/-! ### State.runModeStep: MODE_STEP's writes depend on the action that fires -/

@[simp] theorem State.applyAction_cfg (a : Action) : (s.applyAction a).cfg = s.cfg := by cases a <;> rfl
@[simp] theorem State.applyAction_configured (a : Action) : (s.applyAction a).configured = s.configured := by cases a <;> rfl
@[simp] theorem State.applyAction_flt (a : Action) : (s.applyAction a).flt = s.flt := by cases a <;> rfl
@[simp] theorem State.applyAction_g_axis (a : Action) : (s.applyAction a).g_axis = s.g_axis := by cases a <;> rfl
@[simp] theorem State.applyAction_inbox (a : Action) : (s.applyAction a).inbox = s.inbox := by cases a <;> rfl
@[simp] theorem State.applyAction_trace (a : Action) : (s.applyAction a).trace = s.trace := by cases a <;> rfl

theorem State.applyAction_cal (a : Action) :
    (s.applyAction a).cal = if a = .CAL then calResetRegs s.flt.f_stable else s.cal := by cases a <;> rfl

theorem State.applyAction_hist (a : Action) :
    (s.applyAction a).hist = if a = .CAL then clearedHist s.cfg else s.hist := by cases a <;> rfl

@[simp] theorem State.runModeStep_cfg (level : Level) : (s.runModeStep level).cfg = s.cfg :=
  State.applyAction_cfg s (s.action level)
@[simp] theorem State.runModeStep_configured (level : Level) : (s.runModeStep level).configured = s.configured :=
  State.applyAction_configured s (s.action level)
@[simp] theorem State.runModeStep_flt (level : Level) : (s.runModeStep level).flt = s.flt :=
  State.applyAction_flt s (s.action level)
@[simp] theorem State.runModeStep_g_axis (level : Level) : (s.runModeStep level).g_axis = s.g_axis :=
  State.applyAction_g_axis s (s.action level)
@[simp] theorem State.runModeStep_inbox (level : Level) : (s.runModeStep level).inbox = s.inbox :=
  State.applyAction_inbox s (s.action level)
@[simp] theorem State.runModeStep_trace (level : Level) : (s.runModeStep level).trace = s.trace :=
  State.applyAction_trace s (s.action level)

@[simp] theorem State.runModeStep_cal (level : Level) : (s.runModeStep level).cal =
    if s.action level = .CAL then calResetRegs s.flt.f_stable else s.cal :=
  State.applyAction_cal s (s.action level)

@[simp] theorem State.runModeStep_hist (level : Level) : (s.runModeStep level).hist =
    if s.action level = .CAL then clearedHist s.cfg else s.hist :=
  State.applyAction_hist s (s.action level)

@[simp] theorem State.runModeStep_mode (level : Level) : (s.runModeStep level).mode =
    { m_mode := nextMode (s.action level) s.mode.m_mode
      m_latch := nextLatch (chordsOf s.cfg level) s.mode.m_latch } := rfl

/-! ### The tick's stages -/

@[simp] theorem State.tickObserved_cfg (raw : Sample) : (s.tickObserved raw).cfg = s.cfg := rfl
@[simp] theorem State.tickObserved_configured (raw : Sample) : (s.tickObserved raw).configured = s.configured := rfl
@[simp] theorem State.tickObserved_flt (raw : Sample) : (s.tickObserved raw).flt = filterRegs s.cfg s.flt raw := rfl
@[simp] theorem State.tickObserved_cal (raw : Sample) : (s.tickObserved raw).cal =
    observeRegs s.cfg s.cal (filterRegs s.cfg s.flt raw).f_stable := rfl
@[simp] theorem State.tickObserved_hist (raw : Sample) : (s.tickObserved raw).hist = s.hist := rfl
@[simp] theorem State.tickObserved_g_axis (raw : Sample) : (s.tickObserved raw).g_axis = s.g_axis := rfl
@[simp] theorem State.tickObserved_mode (raw : Sample) : (s.tickObserved raw).mode = s.mode := rfl
@[simp] theorem State.tickObserved_inbox (raw : Sample) : (s.tickObserved raw).inbox = s.inbox := rfl
@[simp] theorem State.tickObserved_trace (raw : Sample) : (s.tickObserved raw).trace = s.trace := rfl

@[simp] theorem State.tickPushed_cfg (raw : Sample) (now : Millis) : (s.tickPushed raw now).cfg = s.cfg := rfl
@[simp] theorem State.tickPushed_configured (raw : Sample) (now : Millis) : (s.tickPushed raw now).configured =
    s.configured := rfl
@[simp] theorem State.tickPushed_flt (raw : Sample) (now : Millis) : (s.tickPushed raw now).flt =
    filterRegs s.cfg s.flt raw := rfl
@[simp] theorem State.tickPushed_cal (raw : Sample) (now : Millis) : (s.tickPushed raw now).cal =
    (s.tickObserved raw).cal := rfl
@[simp] theorem State.tickPushed_hist (raw : Sample) (now : Millis) : (s.tickPushed raw now).hist =
    pushRegs s.cfg s.hist (s.tickAngle raw) now := rfl
@[simp] theorem State.tickPushed_g_axis (raw : Sample) (now : Millis) : (s.tickPushed raw now).g_axis =
    s.g_axis := rfl
@[simp] theorem State.tickPushed_mode (raw : Sample) (now : Millis) : (s.tickPushed raw now).mode = s.mode := rfl
@[simp] theorem State.tickPushed_inbox (raw : Sample) (now : Millis) : (s.tickPushed raw now).inbox = s.inbox := rfl
@[simp] theorem State.tickPushed_trace (raw : Sample) (now : Millis) : (s.tickPushed raw now).trace = s.trace := rfl

@[simp] theorem State.tickGated_cfg (raw : Sample) (now : Millis) : (s.tickGated raw now).cfg = s.cfg := rfl
@[simp] theorem State.tickGated_configured (raw : Sample) (now : Millis) : (s.tickGated raw now).configured =
    s.configured := rfl
@[simp] theorem State.tickGated_flt (raw : Sample) (now : Millis) : (s.tickGated raw now).flt =
    filterRegs s.cfg s.flt raw := rfl
@[simp] theorem State.tickGated_cal (raw : Sample) (now : Millis) : (s.tickGated raw now).cal =
    (s.tickObserved raw).cal := rfl
@[simp] theorem State.tickGated_hist (raw : Sample) (now : Millis) : (s.tickGated raw now).hist =
    pushRegs s.cfg s.hist (s.tickAngle raw) now := rfl
@[simp] theorem State.tickGated_g_axis (raw : Sample) (now : Millis) : (s.tickGated raw now).g_axis =
    if gateAccepts s.cfg (s.tickPushed raw now).dth (s.tickPushed raw now).dt then s.tickByte raw else s.g_axis := rfl
@[simp] theorem State.tickGated_mode (raw : Sample) (now : Millis) : (s.tickGated raw now).mode = s.mode := rfl
@[simp] theorem State.tickGated_inbox (raw : Sample) (now : Millis) : (s.tickGated raw now).inbox = s.inbox := rfl
@[simp] theorem State.tickGated_trace (raw : Sample) (now : Millis) : (s.tickGated raw now).trace = s.trace := rfl

@[simp] theorem State.runTick_cfg (raw : Sample) (level : Level) (now : Millis) :
    (s.runTick raw level now).cfg = s.cfg := State.runModeStep_cfg (s.tickGated raw now) level
@[simp] theorem State.runTick_configured (raw : Sample) (level : Level) (now : Millis) :
    (s.runTick raw level now).configured = s.configured := State.runModeStep_configured (s.tickGated raw now) level
@[simp] theorem State.runTick_inbox (raw : Sample) (level : Level) (now : Millis) :
    (s.runTick raw level now).inbox = s.inbox := State.runModeStep_inbox (s.tickGated raw now) level
@[simp] theorem State.runTick_trace (raw : Sample) (level : Level) (now : Millis) :
    (s.runTick raw level now).trace = s.trace := State.runModeStep_trace (s.tickGated raw now) level

end Sys2Proof.Machine
end

