-- ==== Sys2Proof/Laws/Exec.lean ====
section
/-! SUPPORT. What each operation answers on a configured block, one equation per constructor, and what a step does with
the next command: the lemmas a proof about `exec` or `step` starts from. -/

namespace Sys2Proof.Machine

variable {s : State}

theorem exec_tick (hc : s.configured = true) (raw : Sample) (level : Level) (now : Millis) (g k : Bool) :
    exec (.tick raw level now g k) s = .next ((s.runTick raw level now).emit
      (.tick (portsOf ((s.runTick raw level now).report level) g k)) (s.tickConditions raw now)) :=
  perform_next hc rfl _ _ _

theorem exec_filter (hc : s.configured = true) (raw : Sample) :
    exec (.filter raw) s = .next ((s.runFilter raw).emit (.filter (s.runFilter raw).flt.f_stable) []) :=
  perform_next hc rfl _ _ _

theorem exec_calObserve (hc : s.configured = true) (x : Sample) :
    exec (.calObserve x) s = .next ((s.runObserve x).emit
      (.calObserve (s.runObserve x).cal.c_min (s.runObserve x).cal.c_max)
      (condWhen (observeDegen s.cfg s.cal x) .DEGEN_RANGE)) :=
  perform_next hc rfl _ _ _

theorem exec_calMap (hc : s.configured = true) (v : Sample) {lo hi : U9} (h : lo.toNat ≤ hi.toNat) :
    exec (.calMap v lo hi) s = .next (s.emit
      (.calMap (BitVec.ofNat 9 (mapf s.cfg.ROUNDING s.cal v.toNat lo.toNat hi.toNat)))
      (condWhen (degenRange s.cal) .DEGEN_RANGE)) :=
  perform_next hc (by simpa [operandsInRange, mapRangeOk] using h) _ _ _

theorem exec_calReset (hc : s.configured = true) (x : Sample) :
    exec (.calReset x) s = .next ((s.runCalReset x).emit .calReset []) :=
  perform_next hc rfl _ _ _

theorem exec_velPush (hc : s.configured = true) {a : U9} (h : a.toNat < 360) (t : Millis) :
    exec (.velPush a t) s = .next ((s.runVelPush a t).emit
      (.velPush (s.runVelPush a t).dth (s.runVelPush a t).dt (dvalidOf (s.runVelPush a t).dt))
      (condWhen (!dvalidOf (s.runVelPush a t).dt) .DT_ZERO)) :=
  perform_next hc (by simpa [operandsInRange, angleOk] using h) _ _ _

theorem exec_velClear (hc : s.configured = true) : exec .velClear s = .next (s.runVelClear.emit .velClear []) :=
  perform_next hc rfl _ _ _

theorem exec_gateAccept (hc : s.configured = true) (cand : Byte) (dth : Disp) (dt : Millis) :
    exec (.gateAccept cand dth dt) s = .next ((s.runGate cand dth dt).emit (.gateAccept (gateAccepts s.cfg dth dt))
      (condWhen (s.cfg.GATE_EN && dt == 0) .DT_ZERO)) :=
  perform_next hc rfl _ _ _

theorem exec_modeStep (hc : s.configured = true) (level : Level) :
    exec (.modeStep level) s = .next ((s.runModeStep level).emit (.modeStep (s.action level)) []) :=
  perform_next hc rfl _ _ _

theorem exec_buildReport (hc : s.configured = true) (level : Level) :
    exec (.buildReport level) s = .next (s.emit (.buildReport (s.report level)) []) :=
  perform_next hc rfl _ _ _

theorem exec_configure {r : CfgRecord} (h : cfgLegal r = true) :
    exec (.configure r) s = .next ((s.accept r).emit .configure []) := by
  simp [exec, execConfigure, h]

theorem exec_configure_illegal {r : CfgRecord} (h : cfgLegal r = false) :
    exec (.configure r) s = .refused .badConfig := by
  simp [exec, execConfigure, h]

theorem exec_por (hc : s.configured = true) : exec .por s = .next (s.powerOnReset.emit .por []) :=
  perform_next hc rfl _ _ _

/-- A step on an empty inbox. -/
theorem step_nil (h : s.inbox = []) : step s = .next s := by
  unfold step; rw [h]

/-- A step on a word, by what it decodes to. -/
theorem step_cons {c : Command} {rest : List Command} (h : s.inbox = c :: rest) :
    step s = match decode c with
      | .illegal e => .refused (refusalOf e)
      | .ok i => exec i s.take := by
  cases hd : decode c <;> simp only [step, h, hd]

end Sys2Proof.Machine
end

