-- ==== Sys2Proof/Laws/PerInstr.lean ====
section
/-! SUPPORT. Statements made for each constructor in turn. `OpField`: the op field of an operation's word is its code of
spec/30_encoding.md R81, and `opcodeOf` reads the operation's opcode back from it. -/

namespace Sys2Proof

/-- The op field of an encoded word is the opcode's code when the operand fields leave bits 3:0 alone. -/
theorem bits_encodeWord {i : Instr} (h : bits (operandWord i) 0 4 = 0) :
    bits (encodeWord i) 0 4 = opcodeCode (opcodeOfInstr i) := by
  apply BitVec.eq_of_getLsbD_eq
  intro j hj
  have h0 : (operandWord i).getLsbD j = false := by
    have := congrArg (fun x => x.getLsbD j) h
    simp only [getLsbD_bits, Nat.zero_add, hj, decide_true, Bool.true_and] at this
    exact this.trans BitVec.getLsbD_zero
  have : j < 64 := by omega
  rw [getLsbD_bits, encodeWord, BitVec.getLsbD_or, getLsbD_place, Nat.zero_add, h0]
  simp [hj, this]

/-- A field placed at bit 4 or above leaves bits 3:0 alone. -/
theorem bits_place_of_le {n lo : Nat} (v : BitVec n) (h : 4 ≤ lo) : bits (place n v lo) 0 4 = 0 := by
  apply BitVec.eq_of_getLsbD_eq
  intro j hj
  have : ¬ lo ≤ 0 + j := by omega
  simp only [getLsbD_bits, getLsbD_place, this]
  simp

/-- A field of the union of two words. -/
theorem bits_or (a b : CommandWord) (lo n : Nat) : bits (a ||| b) lo n = bits a lo n ||| bits b lo n := by
  apply BitVec.eq_of_getLsbD_eq
  intro j _
  simp only [getLsbD_bits, BitVec.getLsbD_or, Bool.and_or_distrib_left]

end Sys2Proof

namespace Sys2Proof.Laws.OpField

/-- The op field of the operation's word is its code, and reads back as its opcode (R80, R81). -/
def Statement (i : Instr) : Prop :=
  bits (encodeWord i) 0 4 = opcodeCode (opcodeOfInstr i) ∧ opcodeOf (encodeWord i) = some (opcodeOfInstr i)

/-- The statement from its operand fields' bits 3:0. -/
theorem of_operandWord {i : Instr} (h : bits (operandWord i) 0 4 = 0) : Statement i :=
  ⟨bits_encodeWord h, (opcodeOf_eq_some_iff _ _).mpr (bits_encodeWord h)⟩

theorem tick (raw : Sample) (level : Level) (now : Millis) (rdy_gp rdy_kb : Bool) :
    Statement (.tick raw level now rdy_gp rdy_kb) :=
  of_operandWord (by simp (disch := omega) [operandWord, placeBit, bits_or, bits_place_of_le])

theorem filter (raw : Sample) : Statement (.filter raw) := of_operandWord (bits_place_of_le raw (by omega))

theorem calObserve (x : Sample) : Statement (.calObserve x) := of_operandWord (bits_place_of_le x (by omega))

theorem calMap (value : Sample) (outMin outMax : U9) : Statement (.calMap value outMin outMax) :=
  of_operandWord (by simp (disch := omega) [operandWord, bits_or, bits_place_of_le])

theorem calReset (x : Sample) : Statement (.calReset x) := of_operandWord (bits_place_of_le x (by omega))

theorem velPush (angle : U9) (ts : Millis) : Statement (.velPush angle ts) :=
  of_operandWord (by simp (disch := omega) [operandWord, bits_or, bits_place_of_le])

theorem velClear : Statement .velClear := of_operandWord rfl

theorem gateAccept (cand : Byte) (dth : Disp) (dt : Millis) : Statement (.gateAccept cand dth dt) :=
  of_operandWord (by simp (disch := omega) [operandWord, bits_or, bits_place_of_le])

theorem modeStep (level : Level) : Statement (.modeStep level) := of_operandWord (bits_place_of_le level (by omega))

theorem buildReport (level : Level) : Statement (.buildReport level) :=
  of_operandWord (bits_place_of_le level (by omega))

theorem configure (newcfg : CfgRecord) : Statement (.configure newcfg) := of_operandWord rfl

theorem por : Statement .por := of_operandWord rfl

end Sys2Proof.Laws.OpField
end

