-- ==== Sys2Proof/Tests/Slice0.lean ====
section
/-! SUPPORT. The model's own tests. Expected results are those of spec/95_test_vectors.md (the vector's id stands in the
docstring) or of the rule named; none is the model's own answer. Last come the witnesses: for each obligation with
hypotheses, concrete states and operands that meet them, clause by clause. -/

namespace Sys2Proof.Tests

open Sys2Proof.Machine

/-! ## Helpers -/

/-- The test configuration of spec/95_test_vectors.md section 0. -/
def testCfg : CfgRecord where
  STAGES := .MA_DEADBAND
  K := 8
  THRESH := 5
  WARMUP := .PREFILL
  CAL_POLICY := .EXPANDING
  CAL_INIT := .UNSET
  D := 4
  ROUNDING := .HALF_AWAY
  N := 32
  GATE_EN := true
  MIN_SPEED_NUM := 1
  MIN_SPEED_DEN := 10
  CHORD_GP := [1, 7, 10]
  CHORD_KB := [2, 7, 10]
  CHORD_CAL := [3, 7, 10]
  KEYCODE := [4, 5, 6, 7, 8, 9, 10, 11, 12, 13, 14]

/-- The reset state right after CONFIGURE with a record. -/
def configured (c : CfgRecord) : State := State.reset.accept c

/-- A set range with a valid previous byte. -/
def ranged (lo hi : Sample) (prev : Byte) : CalRegs :=
  { c_set := true, c_min := lo, c_max := hi, c_prev := prev, c_prev_valid := true }

/-- The filter after `FILTER 500` from reset: vector F1's end state. -/
def filter500 : FilterRegs :=
  { f_buf := [500, 500, 500, 500, 500, 500, 500, 500], f_cur := 0, f_sum := 4000, f_seeded := true, f_stable := 500 }

/-- An outcome is a next state that passes a check. -/
def goesOn (o : Host.Outcome State Fault Refusal) (check : State → Bool) : Bool :=
  match o with
  | .next t => check t
  | .fault _ => false
  | .refused _ => false

/-- An outcome is the refusal named. -/
def refusedWith (o : Host.Outcome State Fault Refusal) (why : Refusal) : Bool :=
  match o with
  | .next _ => false
  | .fault _ => false
  | .refused r => r == why

/-- The last event's output. -/
def drove (t : State) (output : Output) : Bool := t.trace.getLast?.map Event.output == some output

/-- A word issued to a state, with the test record beside it. -/
def issued (s : State) (w : CommandWord) : State := { s with inbox := [⟨w, testCfg⟩] }

/-! ## Well-formedness: an ill-formed term for each check -/

/-- R90: `outmin ≤ outmax`. -/
theorem test_wf_calMap_reversed : (Instr.calMap 500 300 200).wellFormed = false := by decide

/-- R90: an angle below 360. -/
theorem test_wf_velPush_angle : (Instr.velPush 360 1).wellFormed = false := by decide

/-- The test record is legal, and so are the ends of R21's ranges. -/
theorem test_wf_configure_legal :
    [testCfg, { testCfg with K := 1, THRESH := 4095, D := 127, N := 2 },
      { testCfg with K := 255, THRESH := 0, D := 0, N := 64, CAL_INIT := .PRESET 4095 4095 },
      { testCfg with MIN_SPEED_NUM := 4294967295, MIN_SPEED_DEN := 4294967295, CAL_INIT := .PRESET 0 4095 }].all
      (fun r => (Instr.configure r).wellFormed) = true := by decide

/-- R21: K. -/
theorem test_wf_configure_K :
    [{ testCfg with K := 0 }, { testCfg with K := 256 }].all (fun r => !(Instr.configure r).wellFormed) = true := by
  decide

/-- R21: THRESH. -/
theorem test_wf_configure_THRESH : (Instr.configure { testCfg with THRESH := 4096 }).wellFormed = false := by decide

/-- R21: CAL_INIT. -/
theorem test_wf_configure_CAL_INIT :
    [{ testCfg with CAL_INIT := .PRESET 2 1 }, { testCfg with CAL_INIT := .PRESET 0 4096 }].all
      (fun r => !(Instr.configure r).wellFormed) = true := by decide

/-- R21: D. -/
theorem test_wf_configure_D : (Instr.configure { testCfg with D := 128 }).wellFormed = false := by decide

/-- R21: N. -/
theorem test_wf_configure_N :
    [{ testCfg with N := 1 }, { testCfg with N := 65 }].all (fun r => !(Instr.configure r).wellFormed) = true := by
  decide

/-- R21: MIN_SPEED_NUM and MIN_SPEED_DEN. -/
theorem test_wf_configure_speed :
    [{ testCfg with MIN_SPEED_NUM := 4294967296 }, { testCfg with MIN_SPEED_DEN := 0 },
      { testCfg with MIN_SPEED_DEN := 4294967296 }].all (fun r => !(Instr.configure r).wellFormed) = true := by decide

/-- R21: the shape of a chord, in each of the three. -/
theorem test_wf_configure_chord :
    [{ testCfg with CHORD_GP := [1, 7] }, { testCfg with CHORD_KB := [2, 2, 10] },
      { testCfg with CHORD_CAL := [3, 7, 11] }].all (fun r => !(Instr.configure r).wellFormed) = true := by decide

/-- R21: no two chords equal as sets. -/
theorem test_wf_configure_chords_differ :
    [{ testCfg with CHORD_KB := [10, 7, 1] }, { testCfg with CHORD_CAL := [7, 1, 10] },
      { testCfg with CHORD_CAL := [10, 2, 7] }].all (fun r => !(Instr.configure r).wellFormed) = true := by decide

/-- R21: KEYCODE. -/
theorem test_wf_configure_KEYCODE :
    [{ testCfg with KEYCODE := [0, 5, 6, 7, 8, 9, 10, 11, 12, 13, 14] },
      { testCfg with KEYCODE := [4, 5, 6, 7, 8, 9, 10, 11, 12, 13, 256] },
      { testCfg with KEYCODE := [4, 5, 6, 7, 8, 9, 10, 11, 12, 13] }].all
      (fun r => !(Instr.configure r).wellFormed) = true := by decide

/-! ## Decoding: a word of each constructor, written out from R81 to R90, R95 and the words of 95_test_vectors.md -/

/-- E1. -/
theorem test_decode_tick :
    decode ⟨0x000003E81FFF1F40#64, testCfg⟩ = .ok (.tick 500 0x7FF 1000 true true) := by decide

/-- R82: only rdy_kb (bit 28) of the two ready bits, level bit 10 alone at bit 26. -/
theorem test_decode_tick_ready_kb :
    decode ⟨0x0000000014000010#64, testCfg⟩ = .ok (.tick 1 0x400 0 false true) := by decide

/-- P5 row 7. -/
theorem test_decode_filter : decode ⟨0x000000000000FFF1#64, testCfg⟩ = .ok (.filter 4095) := by decide

/-- P5 row 8. -/
theorem test_decode_calObserve : decode ⟨0x0000000000000642#64, testCfg⟩ = .ok (.calObserve 100) := by decide

/-- P5 row 5: it decodes; the operation refuses it (R92). -/
theorem test_decode_calMap : decode ⟨0x00000001912C1F43#64, testCfg⟩ = .ok (.calMap 500 300 200) := by decide

/-- R83: op 4, 500 = 0x1F4 at bits 15:4. -/
theorem test_decode_calReset : decode ⟨0x0000000000001F44#64, testCfg⟩ = .ok (.calReset 500) := by decide

/-- P5 row 11. -/
theorem test_decode_velPush : decode ⟨0x00000006000015E5#64, testCfg⟩ = .ok (.velPush 350 6) := by decide

/-- R88. -/
theorem test_decode_velClear : decode ⟨0x0000000000000006#64, testCfg⟩ = .ok .velClear := by decide

/-- E9: dth -20 is 0xFFEC. -/
theorem test_decode_gateAccept : decode ⟨0x0000001F0FFEC807#64, testCfg⟩ = .ok (.gateAccept 128 0xFFEC 31) := by decide

/-- P5 row 14. -/
theorem test_decode_modeStep : decode ⟨0x00000000000037B8#64, testCfg⟩ = .ok (.modeStep 0x37B) := by decide

/-- P5 row 15. -/
theorem test_decode_buildReport : decode ⟨0x0000000000007FE9#64, testCfg⟩ = .ok (.buildReport 0x7FE) := by decide

/-- R89. -/
theorem test_decode_configure : decode ⟨0x000000000000000E#64, testCfg⟩ = .ok (.configure testCfg) := by decide

/-- P5 row 1. -/
theorem test_decode_por : decode ⟨0x000000000000000F#64, testCfg⟩ = .ok .por := by decide

/-- E3 and E4, and R91's other two codes: RESERVED_OP, before RESERVED_BITS. -/
theorem test_decode_reserved_op :
    [0x000000000000000A#64, 0x800000000000000B#64, 0xC#64, 0xD#64].all
      (fun w => decode ⟨w, testCfg⟩ == .illegal .reservedOp) = true := by decide

/-- E5, E8, E12, E13 and P5 row 2: RESERVED_BITS. -/
theorem test_decode_reserved_bits :
    [0x000000000010FFF1#64, 0x0000000100003685#64, 0x0000000000000016#64, 0x000000000000FFF8#64,
      0x0000000037FF0000#64].all (fun w => decode ⟨w, testCfg⟩ == .illegal .reservedBits) = true := by decide

/-- The rows of spec/opcode_table.json name distinct operations: no word is under two of them. -/
theorem test_table_rows_disjoint :
    opcodeTable.Pairwise (fun a b => a.pattern &&& a.mask &&& b.mask ≠ b.pattern &&& a.mask &&& b.mask) := by decide

/-- R94's pressed buttons: P2 row 2's level. -/
theorem test_tickp_level : levelPressing [2, 7, 10] = 0x37B := by decide

/-! ## One step of each operation -/

/-- E1: the word itself, issued after CONFIGURE. -/
theorem test_tick_first :
    goesOn (step (issued (configured testCfg) 0x000003E81FFF1F40#64)) (fun t =>
      drove t (.tick ⟨true, [0, 0, 0], true, [0, 0, 0, 0, 0, 0]⟩) && t.flt.f_stable == 500 && t.cal.c_max == 500
        && t.cal.c_prev_valid && t.hist.h_ts.getD 0 0 == 1000 && t.g_axis == 0) = true := by decide

/-- R232, with P2 row 2's buttons, from P3's range: the chord's own keycodes in the same tick; the gate accepts 180
degrees in 12 ms (P3 row 3), and the gamepad channel is not ready (R238). -/
theorem test_tick_keyboard_same_tick :
    goesOn (exec (.tick 2000 0x37B 12 false true)
      { configured { testCfg with K := 1, STAGES := .MA_ONLY, N := 4 } with cal := ranged 1000 3000 255 })
      (fun t => drove t (.tick ⟨false, [132, 4, 128], true, [6, 11, 14, 0, 0, 0]⟩) && t.mode.m_mode == .Keyboard)
      = true := by decide

/-- F2, first row. -/
theorem test_filter_zerofill :
    goesOn (exec (.filter 500) (configured { testCfg with WARMUP := .ZEROFILL })) (fun t =>
      drove t (.filter 62) && t.flt.f_buf == [500, 0, 0, 0, 0, 0, 0, 0] && t.flt.f_cur == 1) = true := by decide

/-- F4: a difference of exactly THRESH is taken. -/
theorem test_filter_threshold :
    goesOn (exec (.filter 540) { configured testCfg with flt := filter500 }) (fun t =>
      drove t (.filter 505) && t.flt.f_sum == 4040 && t.flt.f_cur == 1) = true := by decide

/-- CW4: a downward crossing from the edge of the high zone. -/
theorem test_calObserve_downward :
    goesOn (exec (.calObserve 110)
      { configured { testCfg with CAL_POLICY := .WRAP_HYST } with cal := ranged 100 4000 251 }) (fun t =>
      drove t (.calObserve 101 4000) && t.cal == ranged 101 4000 1) = true := by decide

/-- CW2: an upward crossing. -/
theorem test_calObserve_upward :
    goesOn (exec (.calObserve 3990)
      { configured { testCfg with CAL_POLICY := .WRAP_HYST } with cal := ranged 100 4000 2 }) (fun t =>
      drove t (.calObserve 100 3999) && t.cal == ranged 100 3999 254) = true := by decide

/-- CA3, HALF_AWAY. -/
theorem test_calMap_halfAway :
    goesOn (exec (.calMap 2050 0 255) { configured testCfg with cal := ranged 100 4000 0 }) (drove · (.calMap 128))
      = true := by decide

/-- CA3, TRUNC. -/
theorem test_calMap_trunc :
    goesOn (exec (.calMap 2050 0 255) { configured { testCfg with ROUNDING := .TRUNC } with cal := ranged 100 4000 0 })
      (drove · (.calMap 127)) = true := by decide

/-- CR1. -/
theorem test_calReset :
    goesOn (exec (.calReset 500) { configured testCfg with cal := ranged 600 900 77 }) (fun t =>
      t.cal == { c_set := true, c_min := 500, c_max := 500, c_prev := 0, c_prev_valid := false }) = true := by decide

/-- V1: 350 to 10 is +20. -/
theorem test_velPush_wrap :
    goesOn (exec (.velPush 10 7)
      { configured { testCfg with N := 2 } with hist := { h_angle := [350, 340], h_ts := [6, 5] } }) (fun t =>
      drove t (.velPush 20 1 true) && t.hist == { h_angle := [10, 350], h_ts := [7, 6] }) = true := by decide

/-- V3's last push, its third before it, and V8's second: 181 up is -179, -180 is kept, dt 0 is undefined. -/
theorem test_velPush_edges :
    (goesOn (exec (.velPush 181 4) { configured { testCfg with N := 2 } with hist := ⟨[0, 180], [3, 2]⟩ })
        (drove · (.velPush (BitVec.ofInt 16 (-179)) 1 true))
      && goesOn (exec (.velPush 0 3) { configured { testCfg with N := 2 } with hist := ⟨[180, 0], [2, 1]⟩ })
        (drove · (.velPush (BitVec.ofInt 16 (-180)) 1 true))
      && goesOn (exec (.velPush 15 9) { configured { testCfg with N := 2 } with hist := ⟨[5, 0], [9, 0]⟩ })
        (drove · (.velPush 10 0 false))) = true := by decide

/-- V5's VEL_CLEAR. -/
theorem test_velClear :
    goesOn (exec .velClear { configured { testCfg with N := 4 } with hist := ⟨[10, 20, 30, 40], [4, 3, 2, 1]⟩ })
      (fun t => t.hist == ⟨[0, 0, 0, 0], [0, 0, 0, 0]⟩) = true := by decide

/-- G4: below the threshold. -/
theorem test_gateAccept_reject :
    goesOn (exec (.gateAccept 201 3 31) { configured testCfg with g_axis := 200 }) (fun t =>
      drove t (.gateAccept false) && t.g_axis == 200) = true := by decide

/-- G5: the magnitude of a negative velocity. -/
theorem test_gateAccept_negative :
    goesOn (exec (.gateAccept 200 (BitVec.ofInt 16 (-4)) 31) (configured testCfg)) (fun t =>
      drove t (.gateAccept true) && t.g_axis == 200) = true := by decide

/-- M5b: two chords, the keyboard's first. -/
theorem test_modeStep_priority :
    goesOn (exec (.modeStep 0x373) { configured testCfg with mode := ⟨.Keyboard, false⟩ }) (fun t =>
      drove t (.modeStep .TO_KB) && t.mode == ⟨.Keyboard, true⟩) = true := by decide

/-- M7: the Calibrate action. -/
theorem test_modeStep_calibrate :
    goesOn (exec (.modeStep 0x377)
      { configured { testCfg with N := 4 } with
        flt := { filter500 with f_stable := 700 }, cal := ranged 600 900 85, hist := ⟨[10, 0, 0, 0], [5, 0, 0, 0]⟩ })
      (fun t => drove t (.modeStep .CAL) && t.mode == ⟨.Gamepad, true⟩
        && t.cal == { c_set := true, c_min := 700, c_max := 700, c_prev := 0, c_prev_valid := false }
        && t.hist == ⟨[0, 0, 0, 0], [0, 0, 0, 0]⟩) = true := by decide

/-- B2: eight buttons in Keyboard mode. -/
theorem test_buildReport_keyboard :
    goesOn (exec (.buildReport 0x092) { configured testCfg with mode := ⟨.Keyboard, false⟩, g_axis := 128 })
      (drove · (.buildReport ⟨[109, 7, 128], [4, 6, 7, 9, 10, 12]⟩)) = true := by decide

/-- B1: the same level in Gamepad mode. -/
theorem test_buildReport_gamepad :
    goesOn (exec (.buildReport 0x092) { configured testCfg with g_axis := 128 })
      (drove · (.buildReport ⟨[109, 7, 128], [0, 0, 0, 0, 0, 0]⟩)) = true := by decide

/-- CP1: a preset range from reset. -/
theorem test_configure_preset :
    goesOn (exec (.configure { testCfg with CAL_INIT := .PRESET 1000 3000 }) State.reset) (fun t =>
      t.configured && t.cal == { ranged 1000 3000 0 with c_prev_valid := false }) = true := by decide

/-- E11: the word, with K = 0 beside it. -/
theorem test_configure_refused :
    refusedWith (step { configured testCfg with inbox := [⟨0x000000000000000E#64, { testCfg with K := 0 }⟩] })
      .badConfig = true := by decide

/-- R45 and R237: POR resets the state and keeps the record. -/
theorem test_por :
    goesOn (exec .por { configured testCfg with flt := filter500, g_axis := 9, mode := ⟨.Keyboard, true⟩ }) (fun t =>
      t.cfg == testCfg && t.configured && !t.flt.f_seeded && t.flt.f_stable == 0 && t.g_axis == 0
        && t.mode == ⟨.Gamepad, false⟩) = true := by decide

/-- E2: POR before any CONFIGURE. -/
theorem test_por_unconfigured : refusedWith (step (issued State.reset 0x000000000000000F#64)) .unconfigured = true := by
  decide

/-- E6, E7, E8 and E10, in the order of R252. -/
theorem test_refusals :
    (refusedWith (step (issued (configured testCfg) 0x00000001912C1F43#64)) .operandRange
      && refusedWith (step (issued (configured testCfg) 0x0000000100001685#64)) .operandRange
      && refusedWith (step (issued (configured testCfg) 0x0000000100003685#64)) .reservedBits
      && refusedWith (step (issued State.reset 0x00000001912C1F43#64)) .unconfigured) = true := by decide

/-- A word placed for the host after reset is the next one run: P5 row 7's FILTER. -/
theorem test_withFetchWord :
    (decodeTableWord 64 0xFFF1 == some (.filter 4095)
      && goesOn (step (State.reset.withFetchWord 64 0xFFF1)) (drove · (.filter 4095))) = true := by decide

/-- Every row's match word of spec/opcode_table.json runs as the first word after reset (R272's boot, log 7). -/
theorem test_table_words_run :
    opcodeTable.all (fun row => goesOn (step (State.reset.withFetchWord 64 row.pattern.toNat)) (fun _ => true)
      && (decodeTableWord 64 row.pattern.toNat).map opcodeOfInstr == some row.opcode) = true := by decide

/-! ## Witnesses: states and operands that meet the hypotheses of each obligation, clause by clause -/

/-- A two-slot filter, four-slot history, wrap-hysteresis block in use. -/
def busyCfg : CfgRecord := { testCfg with K := 2, N := 4, CAL_POLICY := .WRAP_HYST }

/-- A state in use, with a chosen previous byte. -/
def busy (prev : Byte) : State :=
  { configured busyCfg with
    flt := { f_buf := [300, 200], f_cur := 1, f_sum := 500, f_seeded := true, f_stable := 250 }
    cal := ranged 100 4000 prev
    hist := ⟨[90, 90, 90, 0], [5, 5, 5, 0]⟩ }

theorem witness_inv_busy (prev : Byte) : (busy prev).Inv where
  legal := by show cfgLegal busyCfg = true; decide
  flt := { length_eq := rfl, cur_lt := by show (1 : Byte).toNat < 2; decide, sum_eq := rfl,
           unseeded := fun h => Bool.noConfusion h }
  cal := { min_le_max := fun _ => by show (100 : Sample).toNat ≤ (4000 : Sample).toNat; decide,
           unset_only := fun h => Bool.noConfusion h, prev_zero := fun h => Bool.noConfusion h }
  hist := { angle_length := rfl, ts_length := rfl,
            angle_lt := by show ∀ a ∈ [90, 90, 90, (0 : U9)], a.toNat < 360; decide }

/-- The state right after CONFIGURE with the test record. -/
theorem witness_inv_configured : (configured testCfg).Inv where
  legal := by decide
  flt := { length_eq := rfl, cur_lt := by decide, sum_eq := by decide, unseeded := fun _ => ⟨rfl, rfl, rfl⟩ }
  cal := { min_le_max := fun h => Bool.noConfusion h, unset_only := fun _ => ⟨rfl, rfl⟩, prev_zero := fun _ => rfl }
  hist := { angle_length := rfl, ts_length := rfl, angle_lt := by decide }

/-- The simple preset with a zero-filled, deadband-free filter of one slot and a two-slot history. -/
def plainCfg : CfgRecord :=
  { applyPreset .SIMPLE testCfg with WARMUP := .ZEROFILL, STAGES := .MA_ONLY, K := 1, N := 2 }

theorem witness_inv_plain : (configured plainCfg).Inv where
  legal := by decide
  flt := { length_eq := rfl, cur_lt := by decide, sum_eq := by decide, unseeded := fun _ => ⟨rfl, rfl, rfl⟩ }
  cal := { min_le_max := fun h => Bool.noConfusion h, unset_only := fun _ => ⟨rfl, rfl⟩, prev_zero := fun _ => rfl }
  hist := { angle_length := rfl, ts_length := rfl, angle_lt := by decide }

/-- Another range, its bounds in order, keeps the invariant. -/
theorem witness_inv_range {s : State} (h : s.Inv) {lo hi : Sample} (hlh : lo.toNat ≤ hi.toNat) (valid : Bool) :
    { s with cal := { ranged lo hi 0 with c_prev_valid := valid } }.Inv where
  legal := h.legal
  flt := h.flt
  cal := { min_le_max := fun _ => hlh, unset_only := fun e => Bool.noConfusion e, prev_zero := fun _ => rfl }
  hist := h.hist

/-- Another mode or latch keeps the invariant. -/
theorem witness_inv_mode {s : State} (h : s.Inv) (m : ModeRegs) : { s with mode := m }.Inv where
  legal := h.legal
  flt := h.flt
  cal := h.cal
  hist := h.hist

theorem witness_LegalRecord : LegalRecord testCfg where
  k_range := by decide
  thresh_range := by decide
  preset_range := fun _ _ h => CalInit.noConfusion h
  d_range := by decide
  n_range := by decide
  num_range := by decide
  den_range := by decide
  chords := by unfold IsChord; decide
  gp_ne_kb := fun h => absurd ((h 1).1 (by decide)) (by decide)
  gp_ne_cal := fun h => absurd ((h 1).1 (by decide)) (by decide)
  kb_ne_cal := fun h => absurd ((h 2).1 (by decide)) (by decide)
  keycodes := by decide

theorem witness_not_LegalRecord : ¬ LegalRecord { testCfg with K := 0 } := fun h => absurd h.k_range.1 (by decide)

theorem witness_preset_legal :
    ∃ lo hi, { testCfg with CAL_INIT := .PRESET 0 4095 }.CAL_INIT = .PRESET lo hi
      ∧ cfgLegal { testCfg with CAL_INIT := .PRESET 0 4095 } = true := ⟨0, 4095, rfl, by decide⟩

/-! ### Encoding -/

theorem witness_DecodedWordIsItsEncoding :
    decode ⟨0xE#64, testCfg⟩ = .ok (.configure testCfg) ∧ decode ⟨0xFFFFFFFF1FFFFFF0#64, testCfg⟩ =
      .ok (.tick 0xFFF 0x7FF 0xFFFFFFFF true true) := by decide

theorem witness_DecodeFollowsOpcodeTable :
    ∃ row ∈ opcodeTable, (0xFFFFFFFF0FFFFFF7#64 &&& row.mask = row.pattern)
      ∧ decode ⟨0xFFFFFFFF0FFFFFF7#64, testCfg⟩ = .ok (.gateAccept 0xFF 0xFFFF 0xFFFFFFFF) :=
  ⟨⟨.GATE_ACCEPT, 7, 0x00000000F000000F#64⟩, by decide⟩

theorem witness_AssemblerLineReadsBack :
    (∀ r, Instr.configure testCfg = .configure r → r = testCfg) ∧ ∀ r, Instr.por = .configure r → r = testCfg :=
  ⟨fun _ h => (Instr.configure.inj h).symm, fun _ h => Instr.noConfusion h⟩

theorem witness_TickpPressesListedButtons :
    (0 < 11 ∧ 0 ∈ [0, 10]) ∧ (10 < 11 ∧ 10 ∈ [0, 10]) ∧ 9 ∉ [0, 10] := by decide

/-! ### Steps, refusals and runs -/

theorem witness_StepRunsDecodedWord :
    (issued (configured testCfg) 0xFFF1#64).inbox = ⟨0xFFF1#64, testCfg⟩ :: []
      ∧ decode ⟨0xFFF1#64, testCfg⟩ = .ok (.filter 4095) := by decide

theorem witness_StepWaitsForAWord : State.reset.inbox = [] := rfl

/-- One word for each clause, at the ends of the reserved codes and of the operand ranges, and a word no clause
refuses. -/
theorem witness_StepRefusesInReasonOrder :
    ((0xA ≤ opNumber 0xA#64 ∧ opNumber 0xA#64 ≤ 0xD) ∧ (0xA ≤ opNumber 0xD#64 ∧ opNumber 0xD#64 ≤ 0xD))
    ∧ (¬ (0xA ≤ opNumber 0x20000000#64 ∧ opNumber 0x20000000#64 ≤ 0xD) ∧ ReservedBitSet 0x20000000#64)
    ∧ (¬ ReservedBitSet 0xF#64 ∧ opNumber 0xF#64 ≠ 0xE ∧ State.reset.configured = false)
    ∧ (¬ ReservedBitSet 0x1685#64 ∧ OperandOutOfRange 0x1685#64)
    ∧ (¬ ReservedBitSet 0xE#64 ∧ ¬ OperandOutOfRange 0xE#64 ∧ opNumber 0xE#64 = 0xE)
    ∧ (¬ ReservedBitSet 0x1675#64 ∧ ¬ OperandOutOfRange 0x1675#64 ∧ (configured testCfg).configured = true
      ∧ opNumber 0x1675#64 ≠ 0xE) := by
  unfold ReservedBitSet OperandOutOfRange
  refine ⟨?_, ?_, ?_, ?_, ?_, ?_⟩ <;> decide

theorem witness_OperationCompletes :
    (Instr.velPush 359 1).wellFormed = true ∧ (configured testCfg).configured = true
      ∧ (Instr.configure testCfg).wellFormed = true ∧ State.reset.configured = false := by decide

/-- Each of the five reasons is met by some step, and a next state by others. -/
theorem witness_EveryStepGoesOnOrRefusesByReason :
    (refusedWith (step (issued State.reset 0xA#64)) .reservedOp
      && refusedWith (step (issued State.reset 0x16#64)) .reservedBits
      && refusedWith (step (issued State.reset 0x6#64)) .unconfigured
      && refusedWith (step (issued (configured testCfg) 0x1685#64)) .operandRange
      && refusedWith (step { State.reset with inbox := [⟨0xE#64, { testCfg with K := 0 }⟩] }) .badConfig
      && goesOn (step State.reset) (fun _ => true)
      && goesOn (step (issued (configured testCfg) 0x6#64)) (fun _ => true)) = true := by decide

theorem witness_UnconfiguredRefusesEveryOtherOperation :
    (State.reset.configured = false ∧ ∀ r, Instr.por ≠ .configure r)
    ∧ ((issued State.reset 0xE#64).inbox = [⟨0xE#64, testCfg⟩] ∧ (issued State.reset 0xE#64).configured = false
      ∧ ∃ t, step (issued State.reset 0xE#64) = .next t) :=
  ⟨⟨rfl, fun _ h => Instr.noConfusion h⟩, rfl, rfl, _, rfl⟩

theorem witness_RefusalMarkIsKept :
    step { (Run.start State.reset).state with inbox := [⟨0xF#64, testCfg⟩] } = .refused .unconfigured
    ∧ ((Run.start State.reset).issue ⟨0xF#64, testCfg⟩).mark = some .unconfigured
    ∧ ((Run.start State.reset).issueAll ([⟨0xE#64, testCfg⟩] ++ ⟨0xFFF1#64, testCfg⟩ :: [])).mark = none :=
  ⟨rfl, by decide, by decide⟩

/-! ### The invariant and the frames -/

theorem witness_StepKeepsInvariant :
    (configured testCfg).Inv ∧ (busy 254).Inv
      ∧ ∃ t, step { busy 254 with inbox := [⟨0xFFF1#64, testCfg⟩] } = .next t :=
  ⟨witness_inv_configured, witness_inv_busy 254, _, rfl⟩

theorem witness_RunningSumIsWindowSum : (busy 254).Inv ∧ ∃ t, exec (.filter 4095) (busy 254) = .next t :=
  ⟨witness_inv_busy 254, _, rfl⟩

/-- A next state for an operation on either side of every clause. -/
theorem witness_RegistersHaveTheirWriters :
    (∃ t, exec (.calMap 0 255 255) (busy 254) = .next t) ∧ (∃ t, exec (.modeStep 0x377) (busy 254) = .next t)
      ∧ (∃ t, exec (.filter 0) (busy 254) = .next t) ∧ (∃ t, exec (.gateAccept 1 0 0) (busy 254) = .next t)
      ∧ ∃ t, exec (.configure testCfg) (busy 254) = .next t :=
  ⟨⟨_, rfl⟩, ⟨_, rfl⟩, ⟨_, rfl⟩, ⟨_, rfl⟩, _, rfl⟩

theorem witness_BlockIgnoresTraceAndInbox :
    (busy 254).SameBlock { busy 254 with trace := [⟨.por, []⟩], inbox := [⟨0xF#64, testCfg⟩] }
      ∧ (∃ t, exec (.modeStep 0x377) (busy 254) = .next t)
      ∧ exec (.velPush 360 0) (busy 254) = .refused .operandRange :=
  ⟨⟨rfl, rfl, rfl, rfl, rfl, rfl, rfl⟩, ⟨_, rfl⟩, rfl⟩

/-! ### FILTER -/

theorem witness_FirstFilterFillsTheWindow :
    ((configured testCfg).Inv ∧ (configured testCfg).configured = true ∧ (configured testCfg).flt.f_seeded = false
      ∧ testCfg.WARMUP = .PREFILL)
    ∧ ((configured plainCfg).Inv ∧ (configured plainCfg).configured = true
      ∧ (configured plainCfg).flt.f_seeded = false ∧ plainCfg.WARMUP = .ZEROFILL) :=
  ⟨⟨witness_inv_configured, rfl, rfl, rfl⟩, witness_inv_plain, rfl, rfl, rfl⟩

/-- The cursor at its last slot, so that it wraps. -/
theorem witness_FilterReplacesOldestSample :
    (busy 254).Inv ∧ (busy 254).configured = true ∧ (busy 254).flt.f_seeded = true
      ∧ (busy 254).flt.f_cur.toNat + 1 = busyCfg.K :=
  ⟨witness_inv_busy 254, rfl, rfl, rfl⟩

theorem witness_FilterMaOnlyFollowsAverage :
    (configured plainCfg).Inv ∧ (configured plainCfg).configured = true ∧ plainCfg.STAGES = .MA_ONLY :=
  ⟨witness_inv_plain, rfl, rfl⟩

/-- Averages 4 and 5 away from the stable value 250: kept, and taken; and the first sample. -/
theorem witness_FilterDeadbandKeepsOrTakesAverage :
    ((busy 254).Inv ∧ (busy 254).configured = true ∧ busyCfg.STAGES = .MA_DEADBAND ∧ (busy 254).flt.f_seeded = true
      ∧ |(((500 - 200 + 208) / 2 : Nat) : Int) - (busy 254).flt.f_stable.toNat| < busyCfg.THRESH
      ∧ (busyCfg.THRESH : Int) ≤ |(((500 - 200 + 210) / 2 : Nat) : Int) - (busy 254).flt.f_stable.toNat|)
    ∧ ((configured testCfg).Inv ∧ testCfg.STAGES = .MA_DEADBAND ∧ (configured testCfg).flt.f_seeded = false) :=
  ⟨⟨witness_inv_busy 254, rfl, rfl, rfl, by decide, by decide⟩, witness_inv_configured, rfl, rfl⟩

/-! ### CAL_OBSERVE, CAL_MAP, CAL_RESET -/

theorem witness_CalObserveExpandsBounds :
    (configured testCfg).configured = true ∧ testCfg.CAL_POLICY = .EXPANDING ∧ (configured testCfg).cal.c_set = false
      ∧ { configured testCfg with cal := ranged 100 4000 254 }.cal.c_set = true := by decide

theorem witness_CalObserveRangeHoldsSample :
    (busy 254).configured = true
      ∧ ((busy 254).cal.c_set = true → (busy 254).cal.c_min.toNat ≤ (busy 254).cal.c_max.toNat) :=
  ⟨rfl, fun _ => (witness_inv_busy 254).cal.min_le_max rfl⟩

/-- CW4 to CW7 and CW2: previous bytes at and beside the zones' edges, trial bytes likewise; the deadzone is 4. -/
theorem witness_CalObserveReanchorsOnCrossing :
    ((busy 251).Inv ∧ (busy 251).configured = true ∧ busyCfg.CAL_POLICY = .WRAP_HYST
      ∧ (busy 251).cal.c_prev_valid = true)
    ∧ (255 - busyCfg.D ≤ (busy 251).cal.c_prev.toNat ∧ ¬ 255 - busyCfg.D ≤ (busy 250).cal.c_prev.toNat
      ∧ (busy 4).cal.c_prev.toNat ≤ busyCfg.D ∧ ¬ (busy 5).cal.c_prev.toNat ≤ busyCfg.D)
    ∧ (100 = min (busy 251).cal.c_min.toNat (168 : Sample).toNat
      ∧ 4000 = max (busy 251).cal.c_max.toNat (168 : Sample).toNat)
    ∧ (mapf busyCfg.ROUNDING (ranged 100 4000 251) 168 0 255 = 4
      ∧ mapf busyCfg.ROUNDING (ranged 100 4000 251) 169 0 255 = 5)
    ∧ mapf busyCfg.ROUNDING (ranged 100 4000 2) 3990 0 255 = 254 :=
  ⟨⟨witness_inv_busy 251, rfl, rfl, rfl⟩, by decide, by decide, by decide, by decide⟩

theorem witness_CalObserveRecordsMappedByte :
    ((configured testCfg).Inv ∧ (configured testCfg).configured = true ∧ (configured testCfg).cal.c_set = false)
    ∧ (let s := { configured testCfg with cal := { ranged 500 500 0 with c_prev_valid := false } }
      s.Inv ∧ s.configured = true ∧ s.cal.c_prev_valid = false ∧ s.cal.c_set = true) :=
  ⟨⟨witness_inv_configured, rfl, rfl⟩, witness_inv_range witness_inv_configured (by decide) false, rfl, rfl, rfl⟩

/-- Degenerate by being unset and by equal bounds; a range with a span under each rounding; equal output ends. -/
theorem witness_CalMapAnswersRescale :
    ((configured testCfg).Inv ∧ (configured testCfg).configured = true ∧ (255 : U9).toNat ≤ (255 : U9).toNat
      ∧ (configured testCfg).cal.c_set = false)
    ∧ (let s := { configured testCfg with cal := ranged 500 500 0 }
      s.Inv ∧ s.configured = true ∧ s.cal.c_min = s.cal.c_max)
    ∧ ((busy 254).Inv ∧ (busy 254).configured = true ∧ (busy 254).cal.c_set = true
      ∧ (busy 254).cal.c_min ≠ (busy 254).cal.c_max ∧ busyCfg.ROUNDING = .HALF_AWAY)
    ∧ (let s := { configured plainCfg with cal := ranged 100 4000 0 }
      s.Inv ∧ s.configured = true ∧ s.cal.c_set = true ∧ s.cal.c_min ≠ s.cal.c_max ∧ s.cfg.ROUNDING = .TRUNC) :=
  ⟨⟨witness_inv_configured, rfl, by decide, rfl⟩,
    ⟨witness_inv_range witness_inv_configured (by decide) true, rfl, rfl⟩,
    ⟨witness_inv_busy 254, rfl, rfl, by decide, rfl⟩,
    witness_inv_range witness_inv_plain (by decide) true, rfl, rfl, by decide, rfl⟩

theorem witness_MapfLaws :
    (0 ≤ 0 ∧ 0 ≤ 511)
      ∧ ((ranged 100 4000 0).c_set = true → (ranged 100 4000 0).c_min.toNat ≤ (ranged 100 4000 0).c_max.toNat)
      ∧ (ranged 100 4000 0).c_set = true ∧ (ranged 100 4000 0).c_min.toNat < (ranged 100 4000 0).c_max.toNat
      ∧ 4095 ≤ 5000 := by
  decide

theorem witness_CalResetSetsRange : (busy 254).configured = true ∧ (0 : U9).toNat ≤ (511 : U9).toNat := by decide

/-! ### VEL_PUSH, VEL_CLEAR -/

/-- For VelPushShiftsHistory and VelPushAnswersVelocity: the largest angle. -/
theorem witness_VelPush : (busy 254).Inv ∧ (busy 254).configured = true ∧ (359 : U9).toNat < 360 :=
  ⟨witness_inv_busy 254, rfl, by decide⟩

/-- The window after the push is constant; no step of it is above 180, one of exactly 180; the history is cleared, the
angle at and beside the wrap. -/
theorem witness_VelocityLaws :
    ((busy 254).Inv ∧ (busy 254).configured = true
      ∧ ∃ u, exec (.velPush 90 6) (busy 254) = .next u ∧ ∀ b ∈ u.hist.h_angle, b = 90)
    ∧ ((configured plainCfg).Inv ∧ (configured plainCfg).configured = true
      ∧ (∃ u, exec (.velPush 180 6) (configured plainCfg) = .next u ∧ ∀ i < plainCfg.N - 1,
          |((u.hist.h_angle.getD i 0).toNat : Int) - (u.hist.h_angle.getD (i + 1) 0).toNat| ≤ 180)
      ∧ (∀ b ∈ (configured plainCfg).hist.h_angle, b = 0) ∧ (∀ b ∈ (configured plainCfg).hist.h_ts, b = 0)
      ∧ 180 < (181 : U9).toNat ∧ ¬ 180 < (180 : U9).toNat) :=
  ⟨⟨witness_inv_busy 254, rfl, _, rfl, by decide⟩,
    witness_inv_plain, rfl, ⟨_, rfl, by decide⟩, fun _ h => List.eq_of_mem_replicate h,
    fun _ h => List.eq_of_mem_replicate h, by decide, by decide⟩

theorem witness_VelClearZeroesHistory : (busy 254).Inv ∧ (busy 254).configured = true := ⟨witness_inv_busy 254, rfl⟩

/-! ### GATE_ACCEPT -/

/-- Gate off; gate on with no elapsed time; gate on at the threshold exactly (G3). -/
theorem witness_GateAcceptsAtThreshold :
    ((configured plainCfg).Inv ∧ (configured plainCfg).configured = true ∧ plainCfg.GATE_EN = false)
    ∧ ((configured testCfg).Inv ∧ (configured testCfg).configured = true ∧ testCfg.GATE_EN = true ∧ (0 : Millis) = 0
      ∧ (30 : Millis) ≠ 0)
    ∧ (testCfg.MIN_SPEED_NUM : ℚ) / testCfg.MIN_SPEED_DEN ≤ |((3 : Int) : ℚ) / (30 : Nat)| :=
  ⟨⟨witness_inv_plain, rfl, rfl⟩, ⟨witness_inv_configured, rfl, rfl, rfl, by decide⟩, by
    show ((1 : Nat) : ℚ) / ((10 : Nat) : ℚ) ≤ _
    norm_num⟩

/-! ### MODE_STEP -/

/-- For LatchIsEdgeTriggered, ChordActionsByPriority and HeldChordFiresOnce: levels that press each chord, two at once,
and none; latch clear and set. -/
theorem witness_ModeStep :
    ((configured testCfg).Inv ∧ (configured testCfg).configured = true ∧ (configured testCfg).mode.m_latch = false)
    ∧ (ChordPressed 0x37D testCfg.CHORD_GP ∧ ¬ ChordPressed 0x37B testCfg.CHORD_GP ∧ ChordPressed 0x37B testCfg.CHORD_KB
      ∧ ¬ ChordPressed 0x377 testCfg.CHORD_GP ∧ ¬ ChordPressed 0x377 testCfg.CHORD_KB
      ∧ ChordPressed 0x377 testCfg.CHORD_CAL
      ∧ ChordPressed 0x373 testCfg.CHORD_KB ∧ ChordPressed 0x373 testCfg.CHORD_CAL)
    ∧ (AnyChordPressed testCfg 0x377 ∧ ¬ AnyChordPressed testCfg 0x37F)
    ∧ (let s := { configured testCfg with mode := ⟨.Gamepad, true⟩ }
      s.Inv ∧ s.configured = true ∧ s.mode.m_latch = true) := by
  refine ⟨⟨witness_inv_configured, rfl, rfl⟩, ?_, ?_, witness_inv_mode witness_inv_configured _, rfl, rfl⟩
  · unfold ChordPressed; decide
  · unfold AnyChordPressed ChordPressed; decide

/-! ### BUILD_REPORT -/

theorem witness_GamepadPayload :
    (busy 254).configured = true ∧ 7 < 8 ∧ 2 < 3 ∧ 3 ≤ 3 := by decide

theorem witness_KeyboardPayload :
    ((configured testCfg).Inv ∧ (configured testCfg).configured = true ∧ (configured testCfg).mode.m_mode = .Gamepad)
    ∧ (let s := { configured testCfg with mode := ⟨.Keyboard, false⟩ }
      s.Inv ∧ s.configured = true ∧ s.mode.m_mode = .Keyboard) :=
  ⟨⟨witness_inv_configured, rfl, rfl⟩, witness_inv_mode witness_inv_configured _, rfl, rfl⟩

/-! ### TICK -/

theorem witness_TickIsItsComponents : (busy 254).Inv ∧ (busy 254).configured = true := ⟨witness_inv_busy 254, rfl⟩

theorem witness_TickSubmitsToReadyChannels : (busy 254).configured = true := rfl

theorem witness_ButtonPathIgnoresAnalogPath :
    (busy 254).configured = true ∧ (busy 7).configured = true ∧ (busy 7).cfg = (busy 254).cfg
      ∧ (busy 7).mode = (busy 254).mode := ⟨rfl, rfl, rfl, rfl⟩

/-- The chords of MODE_STEP's witness, from a block in use. -/
theorem witness_ModeSwitchShowsInSameTick :
    (busy 254).Inv ∧ (busy 254).configured = true ∧ (busy 254).mode.m_latch = false
      ∧ ChordPressed 0x37D busyCfg.CHORD_GP ∧ ¬ ChordPressed 0x37B busyCfg.CHORD_GP
      ∧ ChordPressed 0x37B busyCfg.CHORD_KB := by
  refine ⟨witness_inv_busy 254, rfl, rfl, ?_⟩
  unfold ChordPressed; decide

theorem witness_CalibrateActsFromNextTick :
    (busy 254).Inv ∧ (busy 254).configured = true ∧ (busy 254).mode.m_latch = false
      ∧ ¬ ChordPressed 0x377 busyCfg.CHORD_GP ∧ ¬ ChordPressed 0x377 busyCfg.CHORD_KB
      ∧ ChordPressed 0x377 busyCfg.CHORD_CAL ∧ ¬ AnyChordPressed busyCfg 0x37F := by
  refine ⟨witness_inv_busy 254, rfl, rfl, ?_⟩
  unfold AnyChordPressed ChordPressed; decide

/-- The test record after CONFIGURE, with `now` zero and not. -/
theorem witness_FirstTickSeedsFilterAndRange :
    (configured testCfg).Inv ∧ (configured testCfg).configured = true ∧ (configured testCfg).AtReset
      ∧ testCfg.CAL_INIT = .UNSET ∧ testCfg.WARMUP = .PREFILL ∧ ¬ AnyChordPressed testCfg 0x7FF := by
  refine ⟨witness_inv_configured, rfl, ?_, rfl, rfl, by unfold AnyChordPressed ChordPressed; decide⟩
  exact
    { f_buf := by decide
      f_rest := by decide
      c_unset := fun _ => by decide
      c_preset := fun _ _ h => CalInit.noConfusion h
      c_prev := by decide
      h_angle := ⟨rfl, fun _ h => List.eq_of_mem_replicate h⟩
      h_ts := ⟨rfl, fun _ h => List.eq_of_mem_replicate h⟩
      g_axis := rfl
      m_mode := rfl
      m_latch := rfl }

/-- A record with a preset range and a zero-filled window. -/
def presetCfg : CfgRecord := { testCfg with CAL_INIT := .PRESET 1000 3000, WARMUP := .ZEROFILL }

/-- A preset and a zero-filled record; a level that calibrates, one whose CHORD_CAL is beaten by CHORD_KB, and one with no
chord. -/
theorem witness_FirstTickFollowsRecordAndChord :
    ((configured presetCfg).Inv ∧ (configured presetCfg).configured = true ∧ (configured presetCfg).AtReset
      ∧ presetCfg.CAL_INIT = .PRESET 1000 3000 ∧ presetCfg.WARMUP = .ZEROFILL)
    ∧ ((true = true ↔ ChordPressed 0x377 presetCfg.CHORD_CAL
        ∧ ¬ ChordPressed 0x377 presetCfg.CHORD_GP ∧ ¬ ChordPressed 0x377 presetCfg.CHORD_KB)
      ∧ (false = true ↔ ChordPressed 0x373 presetCfg.CHORD_CAL
        ∧ ¬ ChordPressed 0x373 presetCfg.CHORD_GP ∧ ¬ ChordPressed 0x373 presetCfg.CHORD_KB)
      ∧ (false = true ↔ ChordPressed 0x7FF presetCfg.CHORD_CAL
        ∧ ¬ ChordPressed 0x7FF presetCfg.CHORD_GP ∧ ¬ ChordPressed 0x7FF presetCfg.CHORD_KB)) := by
  refine ⟨⟨?_, rfl, ?_, rfl, rfl⟩, by unfold ChordPressed; decide⟩
  · exact
      { legal := by decide
        flt := { length_eq := rfl, cur_lt := by decide, sum_eq := by decide, unseeded := fun _ => ⟨rfl, rfl, rfl⟩ }
        cal := { min_le_max := fun _ => by decide, unset_only := fun h => Bool.noConfusion h, prev_zero := fun _ => rfl }
        hist := { angle_length := rfl, ts_length := rfl, angle_lt := by decide } }
  · exact
      { f_buf := by decide
        f_rest := by decide
        c_unset := fun h => CalInit.noConfusion h
        c_preset := fun _ _ h => by obtain ⟨rfl, rfl⟩ := CalInit.PRESET.inj h; decide
        c_prev := by decide
        h_angle := ⟨rfl, fun _ h => List.eq_of_mem_replicate h⟩
        h_ts := ⟨rfl, fun _ h => List.eq_of_mem_replicate h⟩
        g_axis := rfl
        m_mode := rfl
        m_latch := rfl }

theorem witness_GateOffAxisFollowsMappedByte :
    (configured plainCfg).Inv ∧ (configured plainCfg).configured = true ∧ plainCfg.GATE_EN = false
      ∧ ¬ ChordPressed 0x37B plainCfg.CHORD_CAL := by
  refine ⟨witness_inv_plain, rfl, rfl, ?_⟩
  unfold ChordPressed; decide

/-- Three pushes at 5 ms are in the window of four; this tick's `now` is the fourth. -/
theorem witness_StalledClockFreezesAxis :
    (busy 254).Inv ∧ (busy 254).configured = true ∧ busyCfg.GATE_EN = true
      ∧ ∀ i < busyCfg.N - 1, (busy 254).hist.h_ts.getD i 0 = 5 :=
  ⟨witness_inv_busy 254, rfl, rfl, by decide⟩

/-! ### CONFIGURE and POR -/

theorem witness_ResetTableHolds : LegalRecord testCfg ∧ (busy 254).Inv ∧ (busy 254).configured = true :=
  ⟨witness_LegalRecord, witness_inv_busy 254, rfl⟩

theorem witness_PorEqualsReconfigure :
    (busy 254).Inv ∧ (busy 254).configured = true
      ∧ ∃ t t', exec .por (busy 254) = .next t ∧ exec (.filter 4095) t = .next t' :=
  ⟨witness_inv_busy 254, rfl, _, _, rfl, rfl⟩

end Sys2Proof.Tests
end

section
/-! The two presets of R10 and the legality of a record (spec/00_scope.md R10, spec/10_state.md R21). -/

namespace Sys2Proof

@[simp] theorem applyPreset_PRECISE (c : CfgRecord) :
    applyPreset .PRECISE c = { c with ROUNDING := .HALF_AWAY, GATE_EN := true } := rfl

@[simp] theorem applyPreset_SIMPLE (c : CfgRecord) :
    applyPreset .SIMPLE c = { c with ROUNDING := .TRUNC, GATE_EN := false } := rfl

namespace Machine

/-- No row of R21's table reads ROUNDING or GATE_EN: each row of the new record is the old record's own. -/
theorem LegalRecord.set_rounding_gateEn {c : CfgRecord} (h : LegalRecord c) (r : Rounding) (g : Bool) :
    LegalRecord { c with ROUNDING := r, GATE_EN := g } where
  k_range := h.k_range
  thresh_range := h.thresh_range
  preset_range := h.preset_range
  d_range := h.d_range
  n_range := h.n_range
  num_range := h.num_range
  den_range := h.den_range
  chords := h.chords
  gp_ne_kb := h.gp_ne_kb
  gp_ne_cal := h.gp_ne_cal
  kb_ne_cal := h.kb_ne_cal
  keycodes := h.keycodes

/-- The converse puts `c`'s own two values back. -/
theorem legalRecord_set_rounding_gateEn_iff (c : CfgRecord) (r : Rounding) (g : Bool) :
    LegalRecord { c with ROUNDING := r, GATE_EN := g } ↔ LegalRecord c :=
  ⟨fun h => h.set_rounding_gateEn c.ROUNDING c.GATE_EN, fun h => h.set_rounding_gateEn r g⟩

theorem legalRecord_applyPreset_iff (p : Preset) (c : CfgRecord) :
    LegalRecord (applyPreset p c) ↔ LegalRecord c := by
  cases p with
  | PRECISE => rw [applyPreset_PRECISE, legalRecord_set_rounding_gateEn_iff]
  | SIMPLE => rw [applyPreset_SIMPLE, legalRecord_set_rounding_gateEn_iff]

/-- Settles O52: the two presets by their equations, legality because no row of R21 reads the two fields they set. -/
theorem presetFixesTwoFields : Obligations.PresetFixesTwoFields := fun c =>
  ⟨applyPreset_PRECISE c, applyPreset_SIMPLE c, fun p => legalRecord_applyPreset_iff p c⟩

end Machine

end Sys2Proof
end

section
/-! R21: the executable legality check `cfgLegal` decides the table `LegalRecord` (spec/10_state.md R21), so CONFIGURE
accepts exactly the table's records (R235). -/

namespace Sys2Proof.Machine

theorem chordLegal_iff_isChord (c : List Nat) : chordLegal c = true ↔ IsChord c := by
  simp only [chordLegal, IsChord, Bool.and_eq_true, beq_iff_eq, List.all_eq_true, decide_eq_true_eq]
  constructor
  · rintro ⟨⟨hlen, hlt⟩, hnodup⟩
    exact ⟨hlen, hnodup, fun j hj => Nat.le_of_lt_succ (hlt j hj)⟩
  · rintro ⟨hlen, hnodup, hle⟩
    exact ⟨⟨hlen, fun j hj => Nat.lt_succ_of_le (hle j hj)⟩, hnodup⟩

/-- The check compares two chords by inclusion both ways, the table by membership. -/
theorem chordSameSet_iff (a b : List Nat) : chordSameSet a b = true ↔ ∀ j, j ∈ a ↔ j ∈ b := by
  simp only [chordSameSet, Bool.and_eq_true, List.all_eq_true, List.contains_iff_mem]
  exact ⟨fun ⟨hab, hba⟩ j => ⟨hab j, hba j⟩, fun h => ⟨fun j => (h j).mp, fun j => (h j).mpr⟩⟩

theorem chordSameSet_eq_false_iff (a b : List Nat) : chordSameSet a b = false ↔ ¬ ∀ j, j ∈ a ↔ j ∈ b := by
  rw [← chordSameSet_iff, Bool.not_eq_true]

theorem calInitLegal_iff (i : CalInit) :
    calInitLegal i = true ↔ ∀ lo hi, i = .PRESET lo hi → lo ≤ hi ∧ hi ≤ 4095 := by
  cases i with
  | UNSET => simp [calInitLegal]
  | PRESET lo hi => simp [calInitLegal]

/-- Row by row: the check's bounds and the table's are the same ranges. -/
theorem cfgLegal_iff_legalRecord (c : CfgRecord) : cfgLegal c = true ↔ LegalRecord c := by
  simp only [cfgLegal, Bool.and_eq_true, Bool.not_eq_true', decide_eq_true_eq, beq_iff_eq, List.all_eq_true,
    chordLegal_iff_isChord, chordSameSet_eq_false_iff, calInitLegal_iff, and_assoc]
  constructor
  · rintro ⟨kLo, kHi, thresh, preset, d, nLo, nHi, num, denLo, denHi, gp, kb, cal, gpKb, gpCal, kbCal, keyLen, keys⟩
    exact
      { k_range := ⟨kLo, kHi⟩
        thresh_range := thresh
        preset_range := preset
        d_range := d
        n_range := ⟨nLo, nHi⟩
        num_range := Nat.le_sub_one_of_lt num
        den_range := ⟨denLo, Nat.le_sub_one_of_lt denHi⟩
        chords := ⟨gp, kb, cal⟩
        gp_ne_kb := gpKb
        gp_ne_cal := gpCal
        kb_ne_cal := kbCal
        keycodes := ⟨keyLen, keys⟩ }
  · rintro ⟨⟨kLo, kHi⟩, thresh, preset, d, ⟨nLo, nHi⟩, num, ⟨denLo, denHi⟩, ⟨gp, kb, cal⟩, gpKb, gpCal, kbCal,
      keyLen, keys⟩
    exact ⟨kLo, kHi, thresh, preset, d, nLo, nHi, Nat.lt_of_le_pred (by decide) num, denLo,
      Nat.lt_of_le_pred (by decide) denHi, gp, kb, cal, gpKb, gpCal, kbCal, keyLen, keys⟩

/-- CONFIGURE by the table: `exec_configure` with the check replaced by R21's rows. -/
theorem exec_configure_of_legalRecord {r : CfgRecord} (h : LegalRecord r) (s : State) :
    exec (.configure r) s = .next ((s.accept r).emit .configure []) :=
  exec_configure ((cfgLegal_iff_legalRecord r).mpr h)

theorem exec_configure_of_not_legalRecord {r : CfgRecord} (h : ¬ LegalRecord r) (s : State) :
    exec (.configure r) s = .refused .badConfig :=
  exec_configure_illegal (Bool.eq_false_iff.mpr (h ∘ (cfgLegal_iff_legalRecord r).mp))

/-- Settles O49: the check CONFIGURE makes is R21's table, by `cfgLegal_iff_legalRecord`. -/
theorem configureAcceptsExactlyLegalRecords : Obligations.ConfigureAcceptsExactlyLegalRecords := fun r s =>
  ⟨fun h => ⟨(s.accept r).emit .configure [], exec_configure_of_legalRecord h s, rfl⟩,
    fun h => exec_configure_of_not_legalRecord h s⟩

end Sys2Proof.Machine
end

section
/-! R45: the block after POR, and so after a CONFIGURE that accepts, which ends in POR (spec/10_state.md R45,
spec/46_tick_and_control.md R235, R237). -/

namespace Sys2Proof.Machine

theorem resetCal_of_unset {cfg : CfgRecord} (h : cfg.CAL_INIT = .UNSET) :
    resetCal cfg = { c_set := false, c_min := 0, c_max := 0, c_prev := 0, c_prev_valid := false } := by
  simp [resetCal, h]

theorem resetCal_of_preset {cfg : CfgRecord} {lo hi : Nat} (h : cfg.CAL_INIT = .PRESET lo hi) :
    resetCal cfg =
      { c_set := true, c_min := BitVec.ofNat 12 lo, c_max := BitVec.ofNat 12 hi, c_prev := 0,
        c_prev_valid := false } := by
  simp [resetCal, h]

/-- Under either CAL_INIT. -/
theorem resetCal_prev (cfg : CfgRecord) : (resetCal cfg).c_prev = 0 ∧ (resetCal cfg).c_prev_valid = false := by
  cases h : cfg.CAL_INIT with
  | UNSET => rw [resetCal_of_unset h]; exact ⟨rfl, rfl⟩
  | PRESET lo hi => rw [resetCal_of_preset h]; exact ⟨rfl, rfl⟩

/-- A preset range in R21's bounds fits the 12-bit registers unchanged. -/
theorem resetCal_preset_toNat {cfg : CfgRecord} (hlegal : LegalRecord cfg) {lo hi : Nat}
    (h : cfg.CAL_INIT = .PRESET lo hi) :
    (resetCal cfg).c_set = true ∧ (resetCal cfg).c_min.toNat = lo ∧ (resetCal cfg).c_max.toNat = hi := by
  obtain ⟨hlo, hhi⟩ := hlegal.preset_range lo hi h
  rw [resetCal_of_preset h]
  exact ⟨rfl, Nat.mod_eq_of_lt (by omega), Nat.mod_eq_of_lt (by omega)⟩

/-- Only the range rows of R45's table need a legal record: the others are POR's constants. -/
theorem State.powerOnReset_atReset {s : State} (h : LegalRecord s.cfg) : s.powerOnReset.AtReset where
  f_buf := ⟨List.length_replicate, fun _ hx => List.eq_of_mem_replicate hx⟩
  f_rest := ⟨rfl, rfl, rfl, rfl⟩
  c_unset hu := by
    rw [State.powerOnReset_cal, resetCal_of_unset (cfg := s.cfg) hu]
    exact ⟨rfl, rfl, rfl⟩
  c_preset _ _ hp := resetCal_preset_toNat h hp
  c_prev := resetCal_prev s.cfg
  h_angle := ⟨List.length_replicate, fun _ ha => List.eq_of_mem_replicate ha⟩
  h_ts := ⟨List.length_replicate, fun _ ht => List.eq_of_mem_replicate ht⟩
  g_axis := rfl
  m_mode := rfl
  m_latch := rfl

/-- R45's table says nothing of the trace, the one field an event changes. -/
theorem State.AtReset.emit {s : State} (h : s.AtReset) (output : Output) (conditions : List Condition) :
    (s.emit output conditions).AtReset :=
  { h with }

/-- CONFIGURE's last act is POR on the block that holds the new record (R235). -/
theorem State.accept_atReset {r : CfgRecord} (h : LegalRecord r) (s : State) : (s.accept r).AtReset :=
  State.powerOnReset_atReset (s := { s with cfg := r, configured := true }) h

/-- Settles O50: the table of R45 holds after POR, and CONFIGURE ends in POR; a configured block's record is legal by
the invariant. -/
theorem resetTableHolds : Obligations.ResetTableHolds := by
  refine ⟨rfl, fun r s hr => ?configure, fun s hinv hc => ?por⟩
  case configure =>
    exact ⟨(s.accept r).emit .configure [], exec_configure_of_legalRecord hr s, (State.accept_atReset hr s).emit _ _,
      rfl, rfl, rfl, rfl⟩
  case por =>
    have hlegal : LegalRecord s.cfg := (cfgLegal_iff_legalRecord s.cfg).mp hinv.legal
    exact ⟨s.powerOnReset.emit .por [], exec_por hc, (State.powerOnReset_atReset hlegal).emit _ _,
      rfl, rfl, rfl, rfl⟩

end Sys2Proof.Machine
end

section
/-! R91: the two ways a word is illegal, and that there is no third (spec/30_encoding.md R81 to R91). A reserved row of
R82 to R89 is one field of the word, so the decoder's mask test is a test of that field. -/

namespace Sys2Proof.Machine

theorem opNumber_eq_toNat_bits (w : CommandWord) : opNumber w = (bits w 0 4).toNat := rfl

/-- The op field of a word with an opcode is that opcode's code (R81). -/
theorem opNumber_of_opcodeOf {w : CommandWord} {o : Opcode} (h : opcodeOf w = some o) :
    opNumber w = (opcodeCode o).toNat := by
  rw [opNumber_eq_toNat_bits, (opcodeOf_eq_some_iff w o).mp h]

/-- The codes R81 gives no operation are 0xA to 0xD: a check of the sixteen codes. -/
theorem opcodeOf_eq_none_iff (w : CommandWord) : opcodeOf w = none ↔ 0xA ≤ opNumber w ∧ opNumber w ≤ 0xD := by
  rw [opNumber_eq_toNat_bits]
  unfold opcodeOf
  generalize bits w 0 4 = b
  revert b
  decide

/-- The lowest bit of a format's "reserved, 0" row (R82 to R89). -/
def reservedLo : Format → Nat
  | .T => 29
  | .S12 => 16
  | .MAP => 34
  | .PUSH => 13
  | .GATE => 28
  | .LVL => 15
  | .NONE => 4
  | .CFG => 4

/-- The number of bits of a format's "reserved, 0" row (R82 to R89). -/
def reservedWidth : Format → Nat
  | .T => 3
  | .S12 => 48
  | .MAP => 30
  | .PUSH => 19
  | .GATE => 4
  | .LVL => 49
  | .NONE => 60
  | .CFG => 60

/-- The format's reserved row lies in the word. -/
theorem reservedLo_add_reservedWidth_le (f : Format) : reservedLo f + reservedWidth f ≤ 64 := by
  cases f <;> decide

theorem reservedMask_eq_place (f : Format) :
    reservedMask f = place (reservedWidth f) (BitVec.allOnes (reservedWidth f)) (reservedLo f) := by
  cases f <;> rfl

/-- A field of ones is a mask of exactly that field's bits. -/
theorem getLsbD_place_allOnes {lo n : Nat} (h : lo + n ≤ 64) (j : Nat) :
    (place n (BitVec.allOnes n) lo).getLsbD j = decide (lo ≤ j ∧ j < lo + n) := by
  rw [getLsbD_place, BitVec.getLsbD_allOnes, ← Bool.decide_and, ← Bool.decide_and, decide_eq_decide]
  omega

/-- A mask of ones over a field tests that field for zero. -/
theorem and_place_allOnes_eq_zero_iff (w : CommandWord) {lo n : Nat} (h : lo + n ≤ 64) :
    w &&& place n (BitVec.allOnes n) lo = 0 ↔ bits w lo n = 0 := by
  constructor
  · intro hw
    apply BitVec.eq_of_getLsbD_eq
    intro j hj
    have hmask : (place n (BitVec.allOnes n) lo).getLsbD (lo + j) = true := by
      simp [getLsbD_place_allOnes h, hj]
    rw [getLsbD_bits, getLsbD_of_and_eq_zero hw hmask]
    simp
  · intro hfield
    apply BitVec.eq_of_getLsbD_eq
    intro j _
    rw [BitVec.getLsbD_and, getLsbD_place_allOnes h]
    by_cases hj : lo ≤ j ∧ j < lo + n
    · have hlt : j - lo < n := by omega
      have hbit : w.getLsbD j = false := calc
        w.getLsbD j = (bits w lo n).getLsbD (j - lo) := by
          rw [getLsbD_bits, Nat.add_sub_cancel' hj.1, decide_eq_true hlt, Bool.true_and]
        _ = false := by rw [hfield]; exact BitVec.getLsbD_zero
      simp [hbit]
    · simp [hj]

theorem and_reservedMask_eq_zero_iff (w : CommandWord) (f : Format) :
    w &&& reservedMask f = 0 ↔ bits w (reservedLo f) (reservedWidth f) = 0 := by
  rw [reservedMask_eq_place, and_place_allOnes_eq_zero_iff w (reservedLo_add_reservedWidth_le f)]

/-- For a word with an opcode, the one clause of `ReservedBitSet` that can apply is that of the opcode's format. -/
theorem reservedBitSet_iff_of_opcodeOf {w : CommandWord} {o : Opcode} (h : opcodeOf w = some o) :
    ReservedBitSet w ↔ w &&& reservedMask (opcodeFormat o) ≠ 0 := by
  have hop := opNumber_of_opcodeOf h
  rw [Ne, and_reservedMask_eq_zero_iff]
  cases o <;> simp [ReservedBitSet, hop, opcodeCode, opcodeFormat, reservedLo, reservedWidth, bits]

/-- A word with a reserved op has no format, so no reserved bits: each clause of `ReservedBitSet` names an op below 0xA or
above 0xD. -/
theorem not_reservedBitSet_of_opcodeOf_eq_none {w : CommandWord} (h : opcodeOf w = none) : ¬ ReservedBitSet w := by
  obtain ⟨hlo, hhi⟩ := (opcodeOf_eq_none_iff w).mp h
  unfold ReservedBitSet
  omega

theorem decode_of_opcodeOf_eq_none {c : Command} (h : opcodeOf c.word = none) : decode c = .illegal .reservedOp := by
  simp only [decode, h]

theorem decode_of_opcodeOf_eq_some {c : Command} {o : Opcode} (h : opcodeOf c.word = some o) :
    decode c = if c.word &&& reservedMask (opcodeFormat o) = 0 then .ok (assembleOperands c o)
      else .illegal .reservedBits := by
  simp only [decode, h]

theorem decode_eq_reservedOp_iff (c : Command) :
    decode c = .illegal .reservedOp ↔ 0xA ≤ opNumber c.word ∧ opNumber c.word ≤ 0xD := by
  rw [← opcodeOf_eq_none_iff]
  cases ho : opcodeOf c.word with
  | none => simp [decode_of_opcodeOf_eq_none ho]
  | some o =>
    rw [decode_of_opcodeOf_eq_some ho]
    split <;> simp

theorem decode_eq_reservedBits_iff (c : Command) : decode c = .illegal .reservedBits ↔ ReservedBitSet c.word := by
  cases ho : opcodeOf c.word with
  | none => simp [decode_of_opcodeOf_eq_none ho, not_reservedBitSet_of_opcodeOf_eq_none ho]
  | some o =>
    rw [decode_of_opcodeOf_eq_some ho, reservedBitSet_iff_of_opcodeOf ho]
    split
    next hm => exact iff_of_false (by simp) (not_not_intro hm)
    next hm => exact iff_of_true rfl hm

/-- Decoding is total (R92): what is illegal for neither reason of R91 is an operation. -/
theorem exists_decode_eq_ok_iff (c : Command) :
    (∃ i, decode c = .ok i) ↔ decode c ≠ .illegal .reservedOp ∧ decode c ≠ .illegal .reservedBits := by
  cases decode c with
  | ok i => simp
  | illegal e => cases e <;> simp

/-- Settles O4: one lemma for each reason of R91, and totality for the words that have neither. -/
theorem decodeRefusesExactlyReserved : Obligations.DecodeRefusesExactlyReserved := by
  intro c
  refine ⟨decode_eq_reservedOp_iff c, decode_eq_reservedBits_iff c, ?_⟩
  rw [exists_decode_eq_ok_iff, Ne, Ne, decode_eq_reservedOp_iff, decode_eq_reservedBits_iff]

end Sys2Proof.Machine
end

section
/-! R94: the level of a TICKP line, bit by bit. -/

namespace Sys2Proof

theorem levelPressing_nil : levelPressing [] = 0x7FF := rfl

/-- The buttons are pressed from the first listed to the last. -/
theorem levelPressing_concat (buttons : List Nat) (b : Nat) :
    levelPressing (buttons ++ [b]) = levelPressing buttons &&& ~~~(1#11 <<< b) := by
  simp [levelPressing]

/-- Pressing button `b` clears bit `b` and no other; an index above 10 has no bit. -/
theorem getLsbD_not_one_shiftLeft {i : Nat} (hi : i < 11) (b : Nat) :
    (~~~(1#11 <<< b)).getLsbD i = decide (i ≠ b) := by
  by_cases hb : i < b
  · simp [hi, hb, hb.ne]
  · have : i - b = 0 ↔ i = b := by omega
    simp [hi, hb, this]

/-- By induction on the list from its end, as the buttons are pressed. -/
theorem getLsbD_levelPressing {i : Nat} (hi : i < 11) (buttons : List Nat) :
    (levelPressing buttons).getLsbD i = decide (i ∉ buttons) := by
  induction buttons using List.reverseRecOn with
  | nil =>
    have hreleased : ∀ j < 11, (levelPressing []).getLsbD j = true := by decide
    simp [hreleased i hi]
  | append_singleton buttons b ih =>
    rw [levelPressing_concat, BitVec.getLsbD_and, ih, getLsbD_not_one_shiftLeft hi, ← Bool.decide_and]
    simp

/-- Settles O7: the level of the expansion, by `getLsbD_levelPressing`. -/
theorem tickpPressesListedButtons : Obligations.TickpPressesListedButtons := fun raw buttons now =>
  ⟨⟨levelPressing buttons, rfl, fun _ hi => getLsbD_levelPressing hi buttons⟩,
    congrArg (Instr.tick raw · now true true) levelPressing_nil⟩

end Sys2Proof
end

section
/-! R110 to R114: FILTER keeps the window, the cursor and the running sum in agreement, so the average it divides out
of the sum fits a sample, and `f_stable` is kept or takes that average (spec/40_sample_filter.md). -/

namespace Sys2Proof.Machine

/-! ### The window and its sum -/

/-- Replacing one entry of a window moves its sum by the difference of the two entries (R111). -/
theorem sum_map_toNat_set_add (l : List Sample) {n : Nat} (hn : n < l.length) (raw : Sample) :
    ((l.set n raw).map BitVec.toNat).sum + (l.getD n 0).toNat = (l.map BitVec.toNat).sum + raw.toNat := by
  induction l generalizing n with
  | nil => exact absurd hn (Nat.not_lt_zero n)
  | cons x xs ih =>
    cases n with
    | zero => simp; omega
    | succ n =>
      have htail := ih (Nat.lt_of_succ_lt_succ hn)
      simp only [List.set_cons_succ, List.map_cons, List.sum_cons, List.getD_cons_succ]
      omega

/-- R25's bound: no sample of the window is above 4095. -/
theorem sum_map_toNat_le (l : List Sample) : (l.map BitVec.toNat).sum ≤ l.length * 4095 := by
  have hle : ∀ x ∈ l.map BitVec.toNat, x ≤ 4095 := by
    simp only [List.mem_map]
    rintro _ ⟨sample, -, rfl⟩
    exact Nat.le_of_lt_succ sample.isLt
  simpa using List.sum_le_card_nsmul _ 4095 hle

theorem FilterRegs.Fits.K_pos {cfg : CfgRecord} {f : FilterRegs} (h : f.Fits cfg) : 0 < cfg.K :=
  Nat.zero_lt_of_lt h.cur_lt

theorem FilterRegs.Fits.sum_le {cfg : CfgRecord} {f : FilterRegs} (h : f.Fits cfg) :
    f.f_sum.toNat ≤ cfg.K * 4095 := by
  rw [h.sum_eq, ← h.length_eq]
  exact sum_map_toNat_le f.f_buf

/-- The average of a window of 12-bit samples is a 12-bit sample, so `stage1` loses nothing (R111). -/
theorem FilterRegs.Fits.stage1_toNat {cfg : CfgRecord} {f : FilterRegs} (h : f.Fits cfg) :
    (stage1 cfg f).toNat = f.f_sum.toNat / cfg.K := by
  have hle : f.f_sum.toNat / cfg.K ≤ 4095 := Nat.div_le_of_le_mul h.sum_le
  exact Nat.mod_eq_of_lt (Nat.lt_succ_of_le hle)

/-! ### FILTER's registers -/

@[simp] theorem filterRegs_f_buf (cfg : CfgRecord) (f : FilterRegs) (raw : Sample) :
    (filterRegs cfg f raw).f_buf = (filterWindow cfg f raw).f_buf := rfl

@[simp] theorem filterRegs_f_cur (cfg : CfgRecord) (f : FilterRegs) (raw : Sample) :
    (filterRegs cfg f raw).f_cur = (filterWindow cfg f raw).f_cur := rfl

@[simp] theorem filterRegs_f_sum (cfg : CfgRecord) (f : FilterRegs) (raw : Sample) :
    (filterRegs cfg f raw).f_sum = (filterWindow cfg f raw).f_sum := rfl

@[simp] theorem filterRegs_f_seeded (cfg : CfgRecord) (f : FilterRegs) (raw : Sample) :
    (filterRegs cfg f raw).f_seeded = true := rfl

/-- The average FILTER uses is the one of the registers it leaves. -/
theorem filterRegs_f_stable (cfg : CfgRecord) (f : FilterRegs) (raw : Sample) :
    (filterRegs cfg f raw).f_stable =
      nextStable cfg f.f_seeded f.f_stable (stage1 cfg (filterRegs cfg f raw)) := rfl

/-- R112: the first sample of a prefilled window fills every slot. -/
theorem filterWindow_prefill {cfg : CfgRecord} {f : FilterRegs} (hs : f.f_seeded = false) (hw : cfg.WARMUP = .PREFILL)
    (raw : Sample) :
    filterWindow cfg f raw =
      { f with f_buf := List.replicate cfg.K raw, f_sum := BitVec.ofNat 20 (cfg.K * raw.toNat), f_cur := 0 } := by
  simp [filterWindow, hs, hw]

/-- R111: every other sample replaces the slot at the cursor. -/
theorem filterWindow_replace {cfg : CfgRecord} {f : FilterRegs} (h : ¬ (f.f_seeded = false ∧ cfg.WARMUP = .PREFILL))
    (raw : Sample) :
    filterWindow cfg f raw =
      { f with
        f_sum := f.f_sum - (f.f_buf.getD f.f_cur.toNat 0).setWidth 20 + raw.setWidth 20
        f_buf := f.f_buf.set f.f_cur.toNat raw
        f_cur := BitVec.ofNat 8 ((f.f_cur.toNat + 1) % cfg.K) } := by
  simp only [filterWindow, Bool.and_eq_true, Bool.not_eq_true', beq_iff_eq, if_neg h]

/-- The 20-bit sum does not wrap when the new window's sum has 20 bits (R111). -/
theorem toNat_sub_add_setWidth {sum : BitVec 20} {old raw : Sample} {total : Nat}
    (htotal : total + old.toNat = sum.toNat + raw.toNat) (hlt : total < 2 ^ 20) :
    (sum - old.setWidth 20 + raw.setWidth 20).toNat = total := by
  simp only [BitVec.toNat_add, BitVec.toNat_sub, BitVec.toNat_setWidth]
  omega

/-- FILTER keeps the registers fit: whichever way the sample enters the window, the sum follows it, and 255 slots of
4095 stay below `2 ^ 20` (R25). -/
theorem filterRegs_fits {cfg : CfgRecord} {f : FilterRegs} (h : f.Fits cfg) (hK : cfg.K ≤ 255)
    (raw : Sample) : (filterRegs cfg f raw).Fits cfg := by
  have hraw : raw.toNat < 2 ^ 12 := raw.isLt
  by_cases hfirst : f.f_seeded = false ∧ cfg.WARMUP = .PREFILL
  case pos =>
    obtain ⟨hs, hw⟩ := hfirst
    have hsum : cfg.K * raw.toNat < 2 ^ 20 := by
      have := Nat.mul_le_mul hK (Nat.le_of_lt_succ hraw)
      omega
    constructor
    case length_eq => simp [filterWindow_prefill hs hw]
    case cur_lt => simpa [filterWindow_prefill hs hw] using h.K_pos
    case sum_eq => simpa [filterWindow_prefill hs hw] using hsum
    case unseeded => simp
  case neg =>
    have hcur : f.f_cur.toNat < f.f_buf.length := h.length_eq ▸ h.cur_lt
    have hmod : (f.f_cur.toNat + 1) % cfg.K < cfg.K := Nat.mod_lt _ h.K_pos
    have htotal := sum_map_toNat_set_add f.f_buf hcur raw
    have hbound := sum_map_toNat_le (f.f_buf.set f.f_cur.toNat raw)
    rw [List.length_set, h.length_eq] at hbound
    rw [← h.sum_eq] at htotal
    constructor
    case length_eq => simp [filterWindow_replace hfirst, h.length_eq]
    case cur_lt =>
      simp only [filterRegs_f_cur, filterWindow_replace hfirst, BitVec.toNat_ofNat]
      exact (Nat.mod_le _ _).trans_lt hmod
    case sum_eq =>
      simp only [filterRegs_f_sum, filterRegs_f_buf, filterWindow_replace hfirst]
      exact toNat_sub_add_setWidth htotal (by omega)
    case unseeded => simp

/-! ### The stable value -/

theorem sampleDist_eq_abs (a b : Sample) : (sampleDist a b : Int) = |(a.toNat : Int) - b.toNat| :=
  Int.natCast_natAbs _

theorem nextStable_unseeded (cfg : CfgRecord) (stable new : Sample) : nextStable cfg false stable new = new := by
  simp [nextStable]

/-- R113 after the first sample. -/
theorem nextStable_of_deadband {cfg : CfgRecord} (h : cfg.STAGES = .MA_DEADBAND) (stable new : Sample) :
    nextStable cfg true stable new = if cfg.THRESH ≤ sampleDist new stable then new else stable := by
  simp [nextStable, h]

theorem nextStable_of_lt {cfg : CfgRecord} (h : cfg.STAGES = .MA_DEADBAND) {stable new : Sample}
    (hlt : |(new.toNat : Int) - stable.toNat| < cfg.THRESH) : nextStable cfg true stable new = stable := by
  rw [← sampleDist_eq_abs, Nat.cast_lt] at hlt
  rw [nextStable_of_deadband h, if_neg (Nat.not_le_of_lt hlt)]

theorem nextStable_of_le {cfg : CfgRecord} (h : cfg.STAGES = .MA_DEADBAND) {stable new : Sample}
    (hle : (cfg.THRESH : Int) ≤ |(new.toNat : Int) - stable.toNat|) : nextStable cfg true stable new = new := by
  rw [← sampleDist_eq_abs, Nat.cast_le] at hle
  rw [nextStable_of_deadband h, if_pos hle]

/-- R116: a change of the stable value is the step that takes the average, so it is at least THRESH. -/
theorem thresh_le_of_nextStable_ne {cfg : CfgRecord} (h : cfg.STAGES = .MA_DEADBAND) {stable new : Sample}
    (hne : nextStable cfg true stable new ≠ stable) :
    (cfg.THRESH : Int) ≤ |((nextStable cfg true stable new).toNat : Int) - stable.toNat| := by
  have hle : (cfg.THRESH : Int) ≤ |(new.toNat : Int) - stable.toNat| :=
    not_lt.mp fun hlt => hne (nextStable_of_lt h hlt)
  rwa [nextStable_of_le h hle]

/-- Settles O23: the average fits a sample because FILTER keeps the registers fit, and the clauses are the cases of
`nextStable`. -/
theorem filterDeadbandKeepsOrTakesAverage : Obligations.FilterDeadbandKeepsOrTakesAverage := by
  intro s raw hinv hc hstages
  have hlegal : LegalRecord s.cfg := (cfgLegal_iff_legalRecord s.cfg).mp hinv.legal
  have hfits : (filterRegs s.cfg s.flt raw).Fits s.cfg := filterRegs_fits hinv.flt hlegal.k_range.2 raw
  refine ⟨_, (stage1 s.cfg (filterRegs s.cfg s.flt raw)).toNat, exec_filter hc raw, hfits.stage1_toNat,
    ?first, ?later⟩
  case first =>
    intro hs
    rw [State.emit_flt, State.runFilter_flt, filterRegs_f_stable, hs, nextStable_unseeded]
  case later =>
    intro hs
    rw [State.emit_flt, State.runFilter_flt, filterRegs_f_stable, hs]
    exact ⟨nextStable_of_lt hstages, fun hle => congrArg BitVec.toNat (nextStable_of_le hstages hle),
      thresh_le_of_nextStable_ne hstages⟩

end Sys2Proof.Machine
end

section
/-! R140 to R143: what CAL_MAP answers. The map never exceeds its upper output end, so the answer fits its register and
nothing is lost where the model narrows it (spec/41_range_calibrator.md). -/

namespace Sys2Proof.Machine

/-! ### An event changes no register -/

theorem State.sameBlock_emit (s : State) (output : Output) (conditions : List Condition) :
    s.SameBlock (s.emit output conditions) :=
  ⟨rfl, rfl, rfl, rfl, rfl, rfl, rfl⟩

theorem State.answered_emit (s : State) (output : Output) (conditions : List Condition) :
    s.Answered (s.emit output conditions) output conditions :=
  ⟨rfl, rfl, rfl, rfl⟩

/-! ### The map's upper output end -/

theorem degenRange_eq_true_iff {c : CalRegs} : degenRange c = true ↔ c.c_set = false ∨ c.c_min = c.c_max := by
  simp [degenRange]

/-- The clamped sample lies at most the span above `c_min`, so its share of `m` is at most `span * m` (R140). -/
theorem clamp_sub_mul_le {a b : Nat} (hab : a ≤ b) (v m : Nat) : (clamp v a b - a) * m ≤ (b - a) * m :=
  Nat.mul_le_mul_right m (Nat.sub_le_sub_right (clamp_mem hab).2 a)

/-- R142's rounding of a value scaled by `span` is at most `hi` when the value itself is. -/
theorem half_up_div_le {n span hi : Nat} (hspan : 0 < span) (hn : n ≤ hi * span) :
    (2 * n + span) / (2 * span) ≤ hi := by
  refine Nat.le_of_lt_succ ((Nat.div_lt_iff_lt_mul (by omega)).mpr ?_)
  calc 2 * n + span < 2 * (hi * span) + 2 * span := by omega
    _ = (hi + 1) * (2 * span) := by ring

/-- Under either rounding, the map stays below its upper output end. -/
theorem mapf_le {c : CalRegs} (hord : c.c_set = true → c.c_min.toNat ≤ c.c_max.toNat) (r : Rounding) (v : Nat)
    {lo hi : Nat} (hlo : lo ≤ hi) : mapf r c v lo hi ≤ hi := by
  by_cases hd : degenRange c = true
  · exact (mapf_of_degen hd r v lo hi).trans_le hlo
  · rw [Bool.not_eq_true] at hd
    obtain ⟨hset, hne⟩ := degenRange_eq_false_iff.mp hd
    have hspan : 0 < c.c_max.toNat - c.c_min.toNat :=
      Nat.sub_pos_of_lt ((hord hset).lt_of_ne (hne ∘ BitVec.eq_of_toNat_eq))
    have hshare := clamp_sub_mul_le (hord hset) v (hi - lo)
    cases r with
    | TRUNC =>
      rw [mapf_trunc hd]
      have := Nat.div_le_of_le_mul hshare
      omega
    | HALF_AWAY =>
      rw [mapf_halfAway hd]
      refine half_up_div_le hspan ((Nat.add_le_add_right hshare _).trans_eq ?_)
      rw [mul_comm lo, ← mul_add, Nat.sub_add_cancel hlo, mul_comm]

/-- CAL_MAP's answer fits 9 bits (R140). -/
theorem toNat_ofNat_mapf {c : CalRegs} (hord : c.c_set = true → c.c_min.toNat ≤ c.c_max.toNat) (r : Rounding) (v : Nat)
    {lo hi : U9} (h : lo.toNat ≤ hi.toNat) :
    (BitVec.ofNat 9 (mapf r c v lo.toNat hi.toNat)).toNat = mapf r c v lo.toNat hi.toNat :=
  Nat.mod_eq_of_lt ((mapf_le hord r v h).trans_lt hi.isLt)

/-- Settles O28: the answer is `mapf`, which is outMin on a degenerate range and else R141's or R142's quotient; it
fits the register by `toNat_ofNat_mapf`. -/
theorem calMapAnswersRescale : Obligations.CalMapAnswersRescale := by
  intro s v lo hi hinv hc hle
  refine ⟨_, _, _, exec_calMap hc v hle, s.sameBlock_emit _ _, s.answered_emit _ _, fun h => ?degenerate,
    fun hset hne => ?spanned⟩
  case degenerate =>
    have hd : degenRange s.cal = true := degenRange_eq_true_iff.mpr h
    rw [mapf_of_degen hd, hd]
    exact ⟨BitVec.ofNat_toNat 9 lo, rfl⟩
  case spanned =>
    have hd : degenRange s.cal = false := degenRange_eq_false_iff.mpr ⟨hset, hne⟩
    rw [toNat_ofNat_mapf hinv.cal.min_le_max _ _ hle, hd]
    refine ⟨rfl, ?_⟩
    rintro vc span rfl rfl
    exact ⟨fun hr => hr ▸ mapf_trunc hd _ _ _, fun hr => hr ▸ mapf_halfAway hd _ _ _⟩

end Sys2Proof.Machine
end

section
/-! R132 to R134: the wrap test of CAL_OBSERVE as a case distinction on numbers, and the bound each crossing moves
(spec/41_range_calibrator.md). -/

namespace Sys2Proof.Machine

/-- A previous byte is valid only after a sample, so the range is set (R45, R135). -/
theorem CalRegs.Fits.set_of_prev_valid {c : CalRegs} {cfg : CfgRecord} (h : c.Fits cfg)
    (hvalid : c.c_prev_valid = true) : c.c_set = true := by
  by_contra hset
  obtain ⟨-, hinvalid⟩ := h.unset_only (Bool.eq_false_of_not_eq_true hset)
  simp [hvalid] at hinvalid

/-- R131 for a range that is set, by the values of the new bounds. -/
theorem widen_of_set {c : CalRegs} (hset : c.c_set = true) {x lo hi : Sample}
    (hlo : lo.toNat = min c.c_min.toNat x.toNat) (hhi : hi.toNat = max c.c_max.toNat x.toNat) :
    widen c x = { c with c_min := lo, c_max := hi } := by
  have hmin : sampleMin c.c_min x = lo := BitVec.eq_of_toNat_eq ((sampleMin_toNat _ _).trans hlo.symm)
  have hmax : sampleMax c.c_max x = hi := BitVec.eq_of_toNat_eq ((sampleMax_toNat _ _).trans hhi.symm)
  simp [widen, hset, hmin, hmax]

/-- The axis byte loses nothing of the map to 0..255 (R132). -/
theorem mappedByte_toNat {c : CalRegs} (hord : c.c_set = true → c.c_min.toNat ≤ c.c_max.toNat) (r : Rounding)
    (x : Sample) : (mappedByte r c x).toNat = mapf r c x.toNat 0 255 :=
  Nat.mod_eq_of_lt (Nat.lt_succ_of_le (mapf_le hord r x.toNat (Nat.zero_le 255)))

/-- A weighted mean of two samples is a sample (R134). -/
theorem reanchored_toNat (bound x : Sample) : (reanchored bound x).toNat = (9 * bound.toNat + x.toNat) / 10 := by
  have hbound := bound.isLt
  have hx := x.isLt
  exact Nat.mod_eq_of_lt (show (9 * bound.toNat + x.toNat) / 10 < 2 ^ 12 by omega)

/-- From the high zone to the low one: a previous and a trial byte of a downward crossing (R133). -/
def CrossesDown (cfg : CfgRecord) (prev trial : Nat) : Prop := 255 - cfg.D ≤ prev ∧ trial ≤ cfg.D

/-- From the low zone to the high one: an upward crossing (R133). -/
def CrossesUp (cfg : CfgRecord) (prev trial : Nat) : Prop := prev ≤ cfg.D ∧ 255 - cfg.D ≤ trial

/-- With D at most 127 the zones are disjoint (R21, R133), so no previous byte is in both. -/
theorem not_crossesDown_and_crossesUp {cfg : CfgRecord} (hD : cfg.D ≤ 127) (prev trial : Nat) :
    ¬ (CrossesDown cfg prev trial ∧ CrossesUp cfg prev trial) := by
  unfold CrossesDown CrossesUp
  omega

section
variable {cfg : CfgRecord} {w : CalRegs} {x : Sample}

theorem inHighZone_and_inLowZone_iff (prev trial : Byte) :
    (inHighZone cfg prev && inLowZone cfg trial) = true ↔ CrossesDown cfg prev.toNat trial.toNat := by
  simp [inHighZone, inLowZone, CrossesDown]

theorem inLowZone_and_inHighZone_iff (prev trial : Byte) :
    (inLowZone cfg prev && inHighZone cfg trial) = true ↔ CrossesUp cfg prev.toNat trial.toNat := by
  simp [inHighZone, inLowZone, CrossesUp]

theorem reanchor_of_crossesDown (h : CrossesDown cfg w.c_prev.toNat (mappedByte cfg.ROUNDING w x).toNat) :
    reanchor cfg w x = { w with c_min := reanchored w.c_min x } :=
  if_pos ((inHighZone_and_inLowZone_iff _ _).mpr h)

theorem reanchor_of_crossesUp (hD : cfg.D ≤ 127)
    (h : CrossesUp cfg w.c_prev.toNat (mappedByte cfg.ROUNDING w x).toNat) :
    reanchor cfg w x = { w with c_max := reanchored w.c_max x } :=
  (if_neg fun hdown =>
    not_crossesDown_and_crossesUp hD _ _ ⟨(inHighZone_and_inLowZone_iff _ _).mp hdown, h⟩).trans
  (if_pos ((inLowZone_and_inHighZone_iff _ _).mpr h))

theorem reanchor_of_not_crosses (hdown : ¬ CrossesDown cfg w.c_prev.toNat (mappedByte cfg.ROUNDING w x).toNat)
    (hup : ¬ CrossesUp cfg w.c_prev.toNat (mappedByte cfg.ROUNDING w x).toNat) :
    reanchor cfg w x = w :=
  (if_neg (hdown ∘ (inHighZone_and_inLowZone_iff _ _).mp)).trans
  (if_neg (hup ∘ (inLowZone_and_inHighZone_iff _ _).mp))

end

/-- With the wrap test running, CAL_OBSERVE leaves the bounds that re-anchoring makes of the widened ones (R130). -/
theorem observedBounds_of_wrapTested {cfg : CfgRecord} {c : CalRegs} (hpolicy : cfg.CAL_POLICY = .WRAP_HYST)
    (hvalid : c.c_prev_valid = true) (x : Sample) : observedBounds cfg c x = reanchor cfg (widen c x) x := by
  simp [observedBounds, wrapTested, hpolicy, hvalid]

theorem observeRegs_c_min (cfg : CfgRecord) (c : CalRegs) (x : Sample) :
    (observeRegs cfg c x).c_min = (observedBounds cfg c x).c_min := rfl

theorem observeRegs_c_max (cfg : CfgRecord) (c : CalRegs) (x : Sample) :
    (observeRegs cfg c x).c_max = (observedBounds cfg c x).c_max := rfl

/-- Settles O26: the trial byte is `mt` unnarrowed, so the three cases of `reanchor` are the three clauses, and the
zones are disjoint because a legal D is at most 127. -/
theorem calObserveReanchorsOnCrossing : Obligations.CalObserveReanchorsOnCrossing := by
  intro s x lo hi mt hinv hc hpolicy hvalid hlo hhi hmt
  have hD : s.cfg.D ≤ 127 := ((cfgLegal_iff_legalRecord s.cfg).mp hinv.legal).d_range
  have hset : s.cal.c_set = true := hinv.cal.set_of_prev_valid hvalid
  have hordered : lo.toNat ≤ hi.toNat := by omega
  have htrial := mappedByte_toNat (c := { s.cal with c_min := lo, c_max := hi }) (fun _ => hordered) s.cfg.ROUNDING x
  rw [← hmt] at htrial
  refine ⟨_, exec_calObserve hc x, ?_⟩
  rw [State.emit_cal, State.runObserve_cal, observeRegs_c_min, observeRegs_c_max,
    observedBounds_of_wrapTested hpolicy hvalid, widen_of_set hset hlo hhi]
  refine ⟨fun hprev hmap => ?down, fun hprev hmap => ?up, fun hdown hup => ?none,
    not_crossesDown_and_crossesUp hD _ _⟩
  case down =>
    rw [reanchor_of_crossesDown (htrial ▸ ⟨hprev, hmap⟩)]
    exact ⟨reanchored_toNat lo x, rfl⟩
  case up =>
    rw [reanchor_of_crossesUp hD (htrial ▸ ⟨hprev, hmap⟩)]
    exact ⟨rfl, reanchored_toNat hi x⟩
  case none =>
    rw [reanchor_of_not_crosses (htrial ▸ hdown) (htrial ▸ hup)]
    exact ⟨rfl, rfl⟩

end Sys2Proof.Machine
end

section
/-! R160 to R165: the history after VEL_PUSH, index by index, and the velocity pair answered from it
(spec/42_velocity_estimator.md). -/

namespace Sys2Proof.Machine

/-! ### The shift -/

theorem shiftIn_getD_zero {α : Type} {n : Nat} (hn : 0 < n) (x : α) (xs : List α) (d : α) :
    (shiftIn n x xs).getD 0 d = x := by
  obtain ⟨m, rfl⟩ := Nat.exists_eq_succ_of_ne_zero hn.ne'
  rfl

theorem shiftIn_getD_succ {α : Type} {n i : Nat} (hi : i + 1 < n) (x : α) (xs : List α) (d : α) :
    (shiftIn n x xs).getD (i + 1) d = xs.getD i d := by
  simp [shiftIn, List.getD_eq_getElem?_getD, List.getElem?_take_of_lt hi]

/-- VEL_PUSH keeps the history fit: N pairs, every angle in 0..359 (R31, R161). -/
theorem pushRegs_fits {cfg : CfgRecord} {h : HistRegs} (hfit : h.Fits cfg) {a : U9} (ha : a.toNat < 360)
    (t : Millis) : (pushRegs cfg h a t).Fits cfg where
  angle_length := shiftIn_length a hfit.angle_length
  ts_length := shiftIn_length t hfit.ts_length
  angle_lt b hb := by
    obtain rfl | hold := List.mem_cons.mp (List.mem_of_mem_take hb)
    · exact ha
    · exact hfit.angle_lt b hold

/-- A push writes none of the fields `Answered` compares, so the event appended to the pushed state answers for `s`. -/
theorem State.answered_velPush (s : State) (a : U9) (t : Millis) (conditions : List Condition) :
    s.Answered
      ((s.runVelPush a t).emit (.velPush (s.runVelPush a t).dth (s.runVelPush a t).dt
        (dvalidOf (s.runVelPush a t).dt)) conditions)
      (.velPush (s.runVelPush a t).dth (s.runVelPush a t).dt (decide ((s.runVelPush a t).dt ≠ 0))) conditions :=
  (s.runVelPush a t).answered_emit _ _

/-- Settles O31: the pushed history is `shiftIn` of both arrays, read at 0 and at a successor. -/
theorem velPushShiftsHistory : Obligations.VelPushShiftsHistory := by
  intro s a t hinv hc ha
  have hN : 2 ≤ s.cfg.N := ((cfgLegal_iff_legalRecord s.cfg).mp hinv.legal).n_range.1
  have hfit : (pushRegs s.cfg s.hist a t).Fits s.cfg := pushRegs_fits hinv.hist ha t
  refine ⟨_, _, _, _, exec_velPush hc ha t, s.answered_velPush a t _, hfit.angle_length, hfit.ts_length,
    shiftIn_getD_zero (by omega) a _ 0, shiftIn_getD_zero (by omega) t _ 0, fun i hi => ?_, rfl, rfl, rfl, rfl⟩
  have hi' : i + 1 < s.cfg.N := by omega
  exact ⟨shiftIn_getD_succ hi' a _ 0, shiftIn_getD_succ hi' t _ 0⟩

/-! ### The displacement -/

/-- The step from pair `i + 1` to pair `i` of a history's angles, newer minus older (R162). -/
def angleStep (angles : List U9) (i : Nat) : Int :=
  ((angles.getD i 0).toNat : Int) - (angles.getD (i + 1) 0).toNat

theorem angleStep_cons_succ (a : U9) (angles : List U9) (i : Nat) :
    angleStep (a :: angles) (i + 1) = angleStep angles i := rfl

theorem netDisp_cons_cons (a b : U9) (rest : List U9) :
    netDisp (a :: b :: rest) = wrapStep (angleStep (a :: b :: rest) 0) + netDisp (b :: rest) := rfl

/-- R162: the recursion over adjacent pairs is the sum over their indices. -/
theorem netDisp_eq_sum : ∀ angles : List U9,
    netDisp angles = ((List.range (angles.length - 1)).map fun i => wrapStep (angleStep angles i)).sum
  | [] => rfl
  | [_] => rfl
  | a :: b :: rest => by
    have hlen : (a :: b :: rest).length - 1 = ((b :: rest).length - 1) + 1 := rfl
    rw [netDisp_cons_cons, netDisp_eq_sum (b :: rest), hlen, List.range_succ_eq_map, List.map_cons, List.map_map,
      List.sum_cons]
    rfl

theorem getD_toNat_lt_360 {angles : List U9} (h : ∀ b ∈ angles, b.toNat < 360) (i : Nat) :
    (angles.getD i 0).toNat < 360 := by
  by_cases hi : i < angles.length
  · rw [List.getD_eq_getElem _ _ hi]
    exact h _ (List.getElem_mem hi)
  · rw [List.getD_eq_default _ _ (Nat.le_of_not_lt hi)]
    decide

/-- R163: two angles below 360 differ by less than a turn, so one correction suffices. -/
theorem abs_wrapStep_angleStep_le {angles : List U9} (h : ∀ b ∈ angles, b.toNat < 360) (i : Nat) :
    |wrapStep (angleStep angles i)| ≤ 180 := by
  have hnew := getD_toNat_lt_360 h i
  have hold := getD_toNat_lt_360 h (i + 1)
  rw [abs_le]
  unfold wrapStep angleStep
  split_ifs <;> omega

/-- Each of the steps between adjacent pairs adds at most 180 (R167). -/
theorem abs_netDisp_le : ∀ {angles : List U9}, (∀ b ∈ angles, b.toNat < 360) →
    |netDisp angles| ≤ 180 * ((angles.length - 1 : Nat) : Int)
  | [], _ => le_rfl
  | [_], _ => le_rfl
  | a :: b :: rest, h => calc
      |netDisp (a :: b :: rest)| ≤ |wrapStep (angleStep (a :: b :: rest) 0)| + |netDisp (b :: rest)| := abs_add_le _ _
      _ ≤ 180 + 180 * (((b :: rest).length - 1 : Nat) : Int) :=
        add_le_add (abs_wrapStep_angleStep_le h 0) (abs_netDisp_le fun c hc => h c (List.mem_cons_of_mem a hc))
      _ = 180 * (((a :: b :: rest).length - 1 : Nat) : Int) := by simp only [List.length_cons]; omega

/-- With at most 64 pairs the displacement is at most 11340 in magnitude, so it fits s16 (R167). -/
theorem HistRegs.Fits.displacement_toInt {h : HistRegs} {cfg : CfgRecord} (hfit : h.Fits cfg) (hN : cfg.N ≤ 64) :
    (displacement h).toInt = netDisp h.h_angle := by
  obtain ⟨hlo, hhi⟩ := abs_le.mp (abs_netDisp_le hfit.angle_lt)
  rw [hfit.angle_length] at hlo hhi
  exact BitVec.toInt_ofInt_eq_self (by decide) (by omega) (by omega)

theorem HistRegs.Fits.displacement_eq_sum {h : HistRegs} {cfg : CfgRecord} (hfit : h.Fits cfg) (hN : cfg.N ≤ 64) :
    (displacement h).toInt = ((List.range (cfg.N - 1)).map fun i => wrapStep (angleStep h.h_angle i)).sum := by
  rw [hfit.displacement_toInt hN, netDisp_eq_sum, hfit.angle_length]

/-! ### The elapsed time -/

/-- R164: 32-bit subtraction is subtraction modulo `2 ^ 32`. -/
theorem elapsed_toNat (cfg : CfgRecord) (h : HistRegs) :
    ((elapsed cfg h).toNat : Int) =
      (((h.h_ts.getD 0 0).toNat : Int) - (h.h_ts.getD (cfg.N - 1) 0).toNat) % 2 ^ 32 := by
  rw [elapsed, BitVec.toNat_sub]
  omega

theorem condWhen_not_dvalidOf (dt : Millis) (c : Condition) :
    condWhen (!dvalidOf dt) c = if dt = 0 then [c] else [] := by
  by_cases h : dt = 0 <;> simp [condWhen, dvalidOf, h]

/-- Settles O32: the steps are `angleStep` of the pushed history and their corrections `wrapStep`; the sum fits s16
because N is at most 64. -/
theorem velPushAnswersVelocity : Obligations.VelPushAnswersVelocity := by
  intro s a t hinv hc ha
  have hN : s.cfg.N ≤ 64 := ((cfgLegal_iff_legalRecord s.cfg).mp hinv.legal).n_range.2
  have hfit : (pushRegs s.cfg s.hist a t).Fits s.cfg := pushRegs_fits hinv.hist ha t
  have hexec := exec_velPush hc ha t
  rw [condWhen_not_dvalidOf] at hexec
  exact ⟨_, _, _, angleStep (pushRegs s.cfg s.hist a t).h_angle,
    fun i => wrapStep (angleStep (pushRegs s.cfg s.hist a t).h_angle i), hexec, s.answered_velPush a t _,
    fun _ => rfl, fun _ => rfl, fun i _ => abs_wrapStep_angleStep_le hfit.angle_lt i, hfit.displacement_eq_sum hN,
    elapsed_toNat s.cfg (pushRegs s.cfg s.hist a t)⟩

end Sys2Proof.Machine
end

section
/-! R180 to R184: the gate's decision, case by case, and its integer comparison as the rational one
(spec/43_report_gate.md). -/

namespace Sys2Proof.Machine

section
variable {cfg : CfgRecord} {dt : Millis}

/-- R183: a gate that is off is pass-through. -/
theorem gateAccepts_of_gateOff (h : cfg.GATE_EN = false) (dth : Disp) (dt : Millis) :
    gateAccepts cfg dth dt = true := by
  simp [gateAccepts, h]

/-- R184: no elapsed time, no defined velocity, no report. -/
theorem gateAccepts_of_dt_zero (h : cfg.GATE_EN = true) (dth : Disp) : gateAccepts cfg dth 0 = false := by
  simp [gateAccepts, h]

/-- R182's comparison as the model makes it, cross-multiplied. -/
theorem gateAccepts_iff_mul_le (h : cfg.GATE_EN = true) (hdt : dt ≠ 0) (dth : Disp) :
    gateAccepts cfg dth dt = true ↔ cfg.MIN_SPEED_NUM * dt.toNat ≤ dth.toInt.natAbs * cfg.MIN_SPEED_DEN := by
  simpa [gateAccepts, h] using fun _ => hdt

/-- Both denominators are positive, so the speed reaches the threshold exactly when the cross products compare. -/
theorem threshold_le_speed_iff_mul_le {num den elapsed : Nat} (hden : 0 < den) (helapsed : 0 < elapsed) (d : Int) :
    (num : ℚ) / den ≤ |(d : ℚ) / elapsed| ↔ num * elapsed ≤ d.natAbs * den := by
  rw [abs_div, Nat.abs_cast, div_le_div_iff₀ (Nat.cast_pos.mpr hden) (Nat.cast_pos.mpr helapsed), ← Int.cast_abs,
    Int.abs_eq_natAbs]
  norm_cast

/-- R182: with the gate on and a defined velocity, acceptance is the rational comparison. -/
theorem gateAccepts_iff_threshold_le_speed (h : cfg.GATE_EN = true) (hden : 0 < cfg.MIN_SPEED_DEN)
    (hdt : dt ≠ 0) (dth : Disp) :
    gateAccepts cfg dth dt = true ↔
      (cfg.MIN_SPEED_NUM : ℚ) / cfg.MIN_SPEED_DEN ≤ |(dth.toInt : ℚ) / dt.toNat| := by
  have hpos : 0 < dt.toNat := Nat.pos_of_ne_zero fun hzero => hdt (BitVec.eq_of_toNat_eq hzero)
  exact (gateAccepts_iff_mul_le h hdt dth).trans (threshold_le_speed_iff_mul_le hden hpos dth.toInt).symm

end

/-- Settles O35: the answer is `gateAccepts`, one lemma for each clause of the decision; a legal MIN_SPEED_DEN is at
least 1, so the threshold is a rational. -/
theorem gateAcceptsAtThreshold : Obligations.GateAcceptsAtThreshold := by
  intro s cand dth dt hinv hc
  have hden : 0 < s.cfg.MIN_SPEED_DEN := ((cfgLegal_iff_legalRecord s.cfg).mp hinv.legal).den_range.1
  refine ⟨_, gateAccepts s.cfg dth dt, _, exec_gateAccept hc cand dth dt,
    (s.runGate cand dth dt).answered_emit _ _, fun hoff => ?off, fun hon hzero => ?undefined,
    fun hon hdt => ?defined, rfl, rfl, rfl, rfl, rfl⟩
  case off => exact gateAccepts_of_gateOff hoff dth dt
  case undefined => exact hzero ▸ gateAccepts_of_dt_zero hon dth
  case defined => exact gateAccepts_iff_threshold_le_speed hon hden hdt dth

end Sys2Proof.Machine
end

section
/-! R190 to R195: which action MODE_STEP fires, read from the pressed chords, and its effect, one equation per action
(spec/44_mode_controller.md). -/

namespace Sys2Proof.Machine

/-! ### The chord predicates -/

/-- The model also tests that a line exists, which R21 grants for a chord (R190, R191). -/
theorem chordHeld_iff_chordPressed {chord : List Nat} (h : IsChord chord) (level : Level) :
    chordHeld level chord = true ↔ ChordPressed level chord := by
  obtain ⟨-, -, hle⟩ := h
  exact chordHeld_iff_low level fun j hj => Nat.lt_succ_of_le (hle j hj)

section
variable {cfg : CfgRecord} (hlegal : LegalRecord cfg) (level : Level)
include hlegal

theorem chordsOf_toGamepad_iff : (chordsOf cfg level).toGamepad = true ↔ ChordPressed level cfg.CHORD_GP := by
  obtain ⟨hgp, -, -⟩ := hlegal.chords
  exact chordHeld_iff_chordPressed hgp level

theorem chordsOf_toKeyboard_iff : (chordsOf cfg level).toKeyboard = true ↔ ChordPressed level cfg.CHORD_KB := by
  obtain ⟨-, hkb, -⟩ := hlegal.chords
  exact chordHeld_iff_chordPressed hkb level

theorem chordsOf_toCalibrate_iff : (chordsOf cfg level).toCalibrate = true ↔ ChordPressed level cfg.CHORD_CAL := by
  obtain ⟨-, -, hcal⟩ := hlegal.chords
  exact chordHeld_iff_chordPressed hcal level

theorem anyChord_chordsOf_iff : anyChord (chordsOf cfg level) = true ↔ AnyChordPressed cfg level := by
  rw [anyChord, Bool.or_eq_true, Bool.or_eq_true, chordsOf_toGamepad_iff hlegal, chordsOf_toKeyboard_iff hlegal,
    chordsOf_toCalibrate_iff hlegal, or_assoc, AnyChordPressed]

end

/-! ### The action that fires -/

/-- R195: an action fires on the edge of the latch and at no other step. -/
theorem modeAction_ne_NONE_iff (c : Chords) (latch : Bool) :
    modeAction c latch ≠ .NONE ↔ anyChord c = true ∧ latch = false := by
  rw [← Bool.not_eq_true', ← Bool.and_eq_true, modeAction]
  split
  next hedge => exact iff_of_true (by split_ifs <;> decide) hedge
  next hedge => exact iff_of_false (not_not_intro rfl) hedge

/-- R193: with the latch clear, the priority of the three chords. -/
theorem modeAction_of_clear (c : Chords) :
    modeAction c false =
      if c.toGamepad then .TO_GP else if c.toKeyboard then .TO_KB else if c.toCalibrate then .CAL else .NONE := by
  obtain ⟨gp, kb, cal⟩ := c
  cases gp
  case true => rfl
  case false =>
    cases kb
    case true => rfl
    case false => cases cal <;> rfl

/-- R195: under a set latch no action fires. -/
theorem modeAction_of_set (c : Chords) : modeAction c true = .NONE := by
  simp [modeAction]

theorem State.action_of_set {s : State} {level : Level} (hset : s.mode.m_latch = true) :
    s.action level = .NONE := by
  rw [State.action, hset, modeAction_of_set]

section
variable {s : State} (hlegal : LegalRecord s.cfg) {level : Level}
include hlegal

theorem State.action_ne_NONE_iff :
    s.action level ≠ .NONE ↔ AnyChordPressed s.cfg level ∧ s.mode.m_latch = false := by
  rw [State.action, modeAction_ne_NONE_iff, anyChord_chordsOf_iff hlegal]

theorem State.action_of_gp (hclear : s.mode.m_latch = false) (hgp : ChordPressed level s.cfg.CHORD_GP) :
    s.action level = .TO_GP := by
  rw [State.action, hclear, modeAction_of_clear, if_pos ((chordsOf_toGamepad_iff hlegal level).mpr hgp)]

theorem State.action_of_kb (hclear : s.mode.m_latch = false) (hgp : ¬ ChordPressed level s.cfg.CHORD_GP)
    (hkb : ChordPressed level s.cfg.CHORD_KB) : s.action level = .TO_KB := by
  rw [State.action, hclear, modeAction_of_clear, if_neg (hgp ∘ (chordsOf_toGamepad_iff hlegal level).mp),
    if_pos ((chordsOf_toKeyboard_iff hlegal level).mpr hkb)]

theorem State.action_of_cal (hclear : s.mode.m_latch = false) (hgp : ¬ ChordPressed level s.cfg.CHORD_GP)
    (hkb : ¬ ChordPressed level s.cfg.CHORD_KB) (hcal : ChordPressed level s.cfg.CHORD_CAL) :
    s.action level = .CAL := by
  rw [State.action, hclear, modeAction_of_clear, if_neg (hgp ∘ (chordsOf_toGamepad_iff hlegal level).mp),
    if_neg (hkb ∘ (chordsOf_toKeyboard_iff hlegal level).mp),
    if_pos ((chordsOf_toCalibrate_iff hlegal level).mpr hcal)]

end

/-! ### MODE_STEP's effect, action by action -/

section
variable {s : State} {level : Level}

/-- The latch follows the chords, whichever action fires (R195, R196). -/
theorem State.runModeStep_m_latch_iff (hlegal : LegalRecord s.cfg) :
    (s.runModeStep level).mode.m_latch = true ↔ AnyChordPressed s.cfg level := by
  rw [State.runModeStep_mode, nextLatch_eq_anyChord, anyChord_chordsOf_iff hlegal]

/-- Without an action MODE_STEP writes the latch alone (R195). -/
theorem State.runModeStep_of_NONE (h : s.action level = .NONE) :
    s.runModeStep level =
      { s with mode := { s.mode with m_latch := nextLatch (chordsOf s.cfg level) s.mode.m_latch } } := by
  rw [State.runModeStep, h]
  rfl

/-- A mode switch writes the ModeController's registers alone (R194). -/
theorem State.runModeStep_of_TO_GP (h : s.action level = .TO_GP) :
    s.runModeStep level =
      { s with
        mode := { m_mode := .Gamepad, m_latch := nextLatch (chordsOf s.cfg level) s.mode.m_latch } } := by
  rw [State.runModeStep, h]
  rfl

theorem State.runModeStep_of_TO_KB (h : s.action level = .TO_KB) :
    s.runModeStep level =
      { s with
        mode := { m_mode := .Keyboard, m_latch := nextLatch (chordsOf s.cfg level) s.mode.m_latch } } := by
  rw [State.runModeStep, h]
  rfl

/-- Calibrate is CAL_RESET of `f_stable` and VEL_CLEAR; the mode is kept (R194). -/
theorem State.runModeStep_of_CAL (h : s.action level = .CAL) :
    s.runModeStep level =
      { s with
        cal := calResetRegs s.flt.f_stable
        hist := clearedHist s.cfg
        mode := { s.mode with m_latch := nextLatch (chordsOf s.cfg level) s.mode.m_latch } } := by
  rw [State.runModeStep, h]
  rfl

/-- R195: a chord held under a set latch changes nothing, not even the latch. -/
theorem State.runModeStep_of_held (hlegal : LegalRecord s.cfg) (hany : AnyChordPressed s.cfg level)
    (hset : s.mode.m_latch = true) : s.runModeStep level = s := by
  rw [State.runModeStep_of_NONE (State.action_of_set hset), nextLatch_eq_anyChord,
    (anyChord_chordsOf_iff hlegal level).mpr hany, ← hset]

end

/-- MODE_STEP writes none of the fields `Answered` compares, so the event appended to its state answers for `s`. -/
theorem State.answered_modeStep (s : State) (level : Level) :
    s.Answered ((s.runModeStep level).emit (.modeStep (s.action level)) []) (.modeStep (s.action level)) [] :=
  ⟨s.runModeStep_cfg level, s.runModeStep_configured level, s.runModeStep_inbox level,
    congrArg (· ++ _) (s.runModeStep_trace level)⟩

/-- Settles O36: an action fires exactly on the edge, by `State.action_ne_NONE_iff`, and the latch is whether a chord is
pressed, by `State.runModeStep_m_latch_iff`. -/
theorem latchIsEdgeTriggered : Obligations.LatchIsEdgeTriggered := by
  intro s level hinv hc
  have hlegal : LegalRecord s.cfg := (cfgLegal_iff_legalRecord s.cfg).mp hinv.legal
  have hedge : s.action level ≠ .NONE ↔ AnyChordPressed s.cfg level ∧ s.mode.m_latch = false :=
    State.action_ne_NONE_iff hlegal
  have hlatch : (s.runModeStep level).mode.m_latch = true ↔ AnyChordPressed s.cfg level :=
    State.runModeStep_m_latch_iff hlegal
  refine ⟨_, s.action level, exec_modeStep hc level, s.answered_modeStep level, fun hany hclear => ?fires,
    fun hnone => ?released, fun hany hset => ?held, fun ha => ?frame, s.runModeStep_flt level,
    s.runModeStep_g_axis level⟩
  case fires => exact ⟨hedge.mpr ⟨hany, hclear⟩, hlatch.mpr hany⟩
  case released =>
    exact ⟨not_not.mp fun hfires => hnone (hedge.mp hfires).1, Bool.eq_false_iff.mpr (hnone ∘ hlatch.mp)⟩
  case held =>
    rw [State.runModeStep_of_held hlegal hany hset]
    exact ⟨State.action_of_set hset, s.sameBlock_emit _ _⟩
  case frame =>
    rw [State.runModeStep_of_NONE ha]
    exact ⟨rfl, rfl, rfl⟩

/-- Settles O37: the chords pick the action by `modeAction_of_clear`'s chain, and each action has its equation of
`State.runModeStep`. -/
theorem chordActionsByPriority : Obligations.ChordActionsByPriority := by
  intro s level hinv hc hclear
  have hlegal : LegalRecord s.cfg := (cfgLegal_iff_legalRecord s.cfg).mp hinv.legal
  refine ⟨_, s.action level, exec_modeStep hc level, s.answered_modeStep level, fun hgp => ?toGamepad,
    fun hgp hkb => ?toKeyboard, fun hgp hkb hcal => ?toCalibrate, s.runModeStep_flt level,
    s.runModeStep_g_axis level⟩
  case toGamepad =>
    have ha : s.action level = .TO_GP := State.action_of_gp hlegal hclear hgp
    rw [State.runModeStep_of_TO_GP ha]
    exact ⟨ha, rfl, rfl, rfl⟩
  case toKeyboard =>
    have ha : s.action level = .TO_KB := State.action_of_kb hlegal hclear hgp hkb
    rw [State.runModeStep_of_TO_KB ha]
    exact ⟨ha, rfl, rfl, rfl⟩
  case toCalibrate =>
    have ha : s.action level = .CAL := State.action_of_cal hlegal hclear hgp hkb hcal
    rw [State.runModeStep_of_CAL ha]
    exact ⟨ha, rfl, rfl, rfl, rfl⟩

end Sys2Proof.Machine
end

section
/-! R210 to R216: the two payloads of BUILD_REPORT. The bitmap's bits are the pressed buttons, and the six keyboard slots
are the first six keycodes, padded with zeros (spec/45_report_builder.md). -/

namespace Sys2Proof.Machine

/-! ### The gamepad bitmap -/

theorem pressedButtons_sortedLT (level : Level) : (pressedButtons level).SortedLT :=
  List.sortedLT_iff_pairwise.mpr (List.pairwise_lt_range.filter _)

/-- A pressed button has a line, and so is below 11 (R190). -/
theorem lt_of_pressed {level : Level} {i : Nat} (h : pressed level i = true) : i < 11 := by
  rw [pressed, Bool.and_eq_true, decide_eq_true_eq] at h
  exact h.1

theorem pressed_of_le {i : Nat} (hi : 11 ≤ i) (level : Level) : pressed level i = false :=
  Bool.eq_false_iff.mpr fun h => Nat.not_lt.mpr hi (lt_of_pressed h)

/-- A line that exists reads as its level, inverted (R190). -/
theorem pressed_of_lt {i : Nat} (hi : i < 11) (level : Level) : pressed level i = !level.getLsbD i := by
  simp [pressed, hi]

/-- The pressed buttons are the bit indices of the sum of their powers of two, and none is at bit 16 or above (R211). -/
@[simp] theorem getLsbD_bitmap (level : Level) (i : Nat) : (bitmap level).getLsbD i = pressed level i := by
  have hmem : i ∈ pressedButtons level ↔ ((pressedButtons level).map (fun j => 2 ^ j)).sum.testBit i = true := by
    rw [← Nat.mem_bitIndices, Nat.bitIndices_sum_map_two_pow (pressedButtons_sortedLT level)]
  rw [Bool.eq_iff_iff, bitmap, BitVec.getLsbD_ofNat, Bool.and_eq_true, decide_eq_true_eq, ← hmem, mem_pressedButtons]
  exact ⟨fun ⟨_, _, hp⟩ => hp, fun hp => ⟨(lt_of_pressed hp).trans (by decide), lt_of_pressed hp, hp⟩⟩

/-- A byte of the bitmap (R62, R211). -/
theorem getLsbD_bitmap_byte (level : Level) (lo i : Nat) :
    ((bitmap level).extractLsb' lo 8).getLsbD i = (decide (i < 8) && pressed level (lo + i)) := by
  rw [BitVec.getLsbD_extractLsb', getLsbD_bitmap]

/-- Settles O39: the bytes' bits are the pressed buttons by `getLsbD_bitmap_byte`, and no button is above 10. -/
theorem gamepadPayloadHoldsBitmapAndAxis : Obligations.GamepadPayloadHoldsBitmapAndAxis := by
  intro s level hc
  refine ⟨_, (bitmap level).extractLsb' 0 8, (bitmap level).extractLsb' 8 8, kbBytes s.cfg s.mode.m_mode level,
    exec_buildReport hc level, s.sameBlock_emit _ _, s.answered_emit _ _, fun i hi => ?low, fun i hi => ?high,
    fun i hi => ?zero⟩
  case low =>
    rw [getLsbD_bitmap_byte, pressed_of_lt (by omega)]
    simp [hi]
  case high =>
    have : i < 8 := by omega
    rw [getLsbD_bitmap_byte, pressed_of_lt (by omega)]
    simp [this]
  case zero => rw [getLsbD_bitmap_byte, pressed_of_le (by omega), Bool.and_false]

/-! ### The keyboard slots -/

/-- The model filters the lines that exist by `pressed`, the spec's list by a low line (R190). -/
theorem pressedButtons_eq_lowButtons (level : Level) : pressedButtons level = lowButtons level :=
  List.filter_congr fun i hi => by simp [pressed, List.mem_range.mp hi]

/-- R21's row for KEYCODE, by button. -/
theorem LegalRecord.keycode_range {c : CfgRecord} (h : LegalRecord c) {i : Nat} (hi : i < numButtons) :
    1 ≤ c.KEYCODE.getD i 0 ∧ c.KEYCODE.getD i 0 ≤ 255 := by
  obtain ⟨hlen, hrange⟩ := h.keycodes
  rw [List.getD_eq_getElem _ _ (hlen ▸ hi)]
  exact hrange _ (List.getElem_mem _)

section
variable (cfg : CfgRecord) (level : Level)

@[simp] theorem kbBytes_gamepad : kbBytes cfg .Gamepad level = [0, 0, 0, 0, 0, 0] := rfl

/-- In Keyboard mode the slots are the first six keycodes, then zeros (R212, R213). -/
theorem kbBytes_keyboard :
    kbBytes cfg .Keyboard level =
      (pressedKeycodes cfg level).take 6 ++ List.replicate (6 - (pressedKeycodes cfg level).length) 0 := by
  rw [kbBytes, List.take_append, List.take_replicate, Nat.min_eq_left (Nat.sub_le _ _)]

@[simp] theorem kbBytes_keyboard_length : (kbBytes cfg .Keyboard level).length = 6 := by
  rw [kbBytes_keyboard, List.length_append, List.length_take, List.length_replicate]
  omega

/-- A slot is the keycode of its position, 0 past the last one. -/
theorem kbBytes_keyboard_getD {j : Nat} (hj : j < 6) :
    (kbBytes cfg .Keyboard level).getD j 0 = (pressedKeycodes cfg level).getD j 0 := by
  rw [kbBytes, List.getD_eq_getElem?_getD, List.getElem?_take_of_lt hj, ← List.getD_eq_getElem?_getD]
  rcases Nat.lt_or_ge j (pressedKeycodes cfg level).length with hlt | hge
  · exact List.getD_append _ _ _ _ hlt
  · rw [List.getD_append_right _ _ _ _ hge, List.getD_eq_default _ _ hge,
      List.getD_replicate _ (Nat.lt_of_le_of_lt (Nat.sub_le _ _) hj)]

theorem pressedKeycodes_length : (pressedKeycodes cfg level).length = (lowButtons level).length := by
  rw [pressedKeycodes, List.length_map, pressedButtons_eq_lowButtons]

variable {cfg} (hlegal : LegalRecord cfg)
include hlegal

/-- A legal keycode fits its slot (R21). -/
theorem toNat_ofNat_keycode {i : Nat} (hi : i < numButtons) :
    (BitVec.ofNat 8 (cfg.KEYCODE.getD i 0)).toNat = cfg.KEYCODE.getD i 0 := by
  obtain ⟨-, hle⟩ := hlegal.keycode_range hi
  exact (BitVec.toNat_ofNat _ _).trans (Nat.mod_eq_of_lt (by omega))

theorem ne_zero_of_mem_pressedKeycodes {k : Byte} (hk : k ∈ pressedKeycodes cfg level) : k ≠ 0 := by
  obtain ⟨i, hi, rfl⟩ := List.mem_map.mp hk
  have hlt : i < numButtons := (mem_pressedButtons.mp hi).1
  obtain ⟨hpos, -⟩ := hlegal.keycode_range hlt
  intro hzero
  have : cfg.KEYCODE.getD i 0 = 0 := (toNat_ofNat_keycode hlegal hlt).symm.trans (congrArg BitVec.toNat hzero)
  omega

/-- Position j of the keycodes is the j-th pressed button's (R212). -/
theorem pressedKeycodes_getD_toNat (j : Nat) :
    ((pressedKeycodes cfg level).getD j 0).toNat =
      if j < (lowButtons level).length then cfg.KEYCODE.getD ((lowButtons level).getD j 0) 0 else 0 := by
  rw [pressedKeycodes, pressedButtons_eq_lowButtons]
  split
  next hj =>
    have hlt : (lowButtons level)[j] < numButtons := List.mem_range.mp (List.mem_of_mem_filter (List.getElem_mem hj))
    rw [List.getD_eq_getElem _ _ (by simpa using hj), List.getElem_map, toNat_ofNat_keycode hlegal hlt,
      List.getD_eq_getElem (lowButtons level) 0 hj]
  next hj =>
    rw [List.getD_eq_default _ _ (by simpa using hj)]
    rfl

theorem kbBytes_keyboard_slots : KeyboardSlots cfg level (kbBytes cfg .Keyboard level) :=
  ⟨kbBytes_keyboard_length cfg level, fun j hj => by
    rw [kbBytes_keyboard_getD cfg level hj, pressedKeycodes_getD_toNat level hlegal]⟩

/-- The nonzero slots are exactly the keycodes: none of them is 0, and the padding is (R21, R213). -/
theorem kbBytes_keyboard_filter_ne_zero :
    (kbBytes cfg .Keyboard level).filter (· ≠ 0) = (pressedKeycodes cfg level).take 6 := by
  have hkeys : ∀ k ∈ (pressedKeycodes cfg level).take 6, decide (k ≠ 0) = true := fun k hk =>
    decide_eq_true (ne_zero_of_mem_pressedKeycodes level hlegal (List.mem_of_mem_take hk))
  rw [kbBytes_keyboard, List.filter_append, List.filter_eq_self.mpr hkeys,
    List.filter_replicate_of_neg (by decide), List.append_nil]

/-- min(6, pressed) slots are nonzero (R216). -/
theorem kbBytes_keyboard_nonzero_length :
    ((kbBytes cfg .Keyboard level).filter (· ≠ 0)).length = min 6 (lowButtons level).length := by
  rw [kbBytes_keyboard_filter_ne_zero level hlegal, List.length_take, pressedKeycodes_length]

end

/-- Settles O40: each slot by `kbBytes_keyboard_slots`, and their number by `kbBytes_keyboard_nonzero_length`. -/
theorem keyboardPayloadHasSixSlots : Obligations.KeyboardPayloadHasSixSlots := by
  intro s level hinv hc
  have hlegal : LegalRecord s.cfg := (cfgLegal_iff_legalRecord s.cfg).mp hinv.legal
  refine ⟨_, gpBytes level s.g_axis, kbBytes s.cfg s.mode.m_mode level, exec_buildReport hc level,
    s.sameBlock_emit _ _, s.answered_emit _ _, fun hgp => ?gamepad, fun hkb => ?keyboard⟩
  case gamepad => rw [hgp, kbBytes_gamepad]
  case keyboard =>
    rw [hkb]
    exact ⟨kbBytes_keyboard_slots level hlegal, kbBytes_keyboard_nonzero_length level hlegal⟩

end Sys2Proof.Machine
end

section
/-! R234, R238: readiness reaches a TICK only through the two strobes. Its registers and payloads are those of `runTick`,
which does not read it (spec/46_tick_and_control.md). -/

namespace Sys2Proof.Machine

theorem State.emit_sameBlock_emit (s : State) (output output' : Output) (conditions conditions' : List Condition) :
    (s.emit output conditions).SameBlock (s.emit output' conditions') :=
  ⟨rfl, rfl, rfl, rfl, rfl, rfl, rfl⟩

/-- The stages of a tick write none of the fields `Answered` compares, so the event appended to their state answers
for `s`. -/
theorem State.answered_tick (s : State) (raw : Sample) (level : Level) (now : Millis) (p : Ports)
    (conditions : List Condition) :
    s.Answered ((s.runTick raw level now).emit (.tick p) conditions) (.tick p) conditions :=
  ⟨s.runTick_cfg raw level now, s.runTick_configured raw level now, s.runTick_inbox raw level now,
    congrArg (· ++ _) (s.runTick_trace raw level now)⟩

/-- A channel's payload is handed over exactly when the channel is ready (R238). -/
theorem submits_portsOf (r : Report) (rdy_gp rdy_kb : Bool) :
    submits (portsOf r rdy_gp rdy_kb) =
      (if rdy_gp then [(.Gamepad, r.gp_bytes)] else []) ++ (if rdy_kb then [(.Keyboard, r.kb_bytes)] else []) :=
  rfl

/-- Settles O42: by `exec_tick` every readiness ends in an event on the one state `runTick`, and the payloads are that
state's report. -/
theorem tickSubmitsToReadyChannels : Obligations.TickSubmitsToReadyChannels := by
  intro s raw level now hc
  let after := s.runTick raw level now
  refine ⟨(after.report level).gp_bytes, (after.report level).kb_bytes, fun rdy_gp rdy_kb => ?_⟩
  exact ⟨_, _, portsOf (after.report level) rdy_gp rdy_kb, s.tickConditions raw now,
    exec_tick hc raw level now rdy_gp rdy_kb, s.answered_tick raw level now _ _, rfl, rfl, rfl, rfl,
    submits_portsOf _ rdy_gp rdy_kb, exec_tick hc raw level now false false, after.emit_sameBlock_emit _ _ _ _⟩

end Sys2Proof.Machine
end

section
/-! R252: the refusal reasons in their order (spec/60_exceptions.md R251, R252). The decoder reports the two reasons of
R91, `perform` the next two for every operation but CONFIGURE, and CONFIGURE the last. -/

namespace Sys2Proof.Machine

/-! ### Admission of an operation other than CONFIGURE -/

section

variable {i : Instr} (hi : opcodeOfInstr i ≠ .CONFIGURE) {s : State}
include hi

/-- The one way in for every operation but CONFIGURE: `perform`, on the operation's own operand ranges. -/
theorem exec_eq_perform (s : State) : ∃ after output conditions,
    exec i s = perform s (operandsInRange i) after output conditions := by
  cases i with
  | configure _ => exact absurd rfl hi
  | _ => exact ⟨_, _, _, rfl⟩

theorem exec_of_unconfigured (hc : s.configured = false) : exec i s = .refused .unconfigured := by
  obtain ⟨after, output, conditions, hexec⟩ := exec_eq_perform hi s
  exact hexec.trans (perform_refused_iff.mpr (.inl ⟨hc, rfl⟩))

theorem exec_of_operands_out_of_range (hc : s.configured = true) (hr : operandsInRange i = false) :
    exec i s = .refused .operandRange := by
  obtain ⟨after, output, conditions, hexec⟩ := exec_eq_perform hi s
  exact hexec.trans (perform_refused_iff.mpr (.inr ⟨hc, hr, rfl⟩))

theorem exists_exec_eq_next (hc : s.configured = true) (hr : operandsInRange i = true) : ∃ t, exec i s = .next t := by
  obtain ⟨after, output, conditions, hexec⟩ := exec_eq_perform hi s
  exact ⟨after.emit output conditions, hexec.trans (perform_next hc hr after output conditions)⟩

end

/-! ### The conditions of R251 on the word, as conditions on its operation -/

theorem opNumber_eq_configure_iff {w : CommandWord} {o : Opcode} (h : opcodeOf w = some o) :
    opNumber w = 0xE ↔ o = .CONFIGURE := by
  rw [opNumber_of_opcodeOf h]
  cases o <;> decide

/-- The two operations with operand ranges read the fields the claim names; every other operation has none (R90). -/
theorem operandOutOfRange_iff {c : Command} {o : Opcode} (h : opcodeOf c.word = some o) :
    OperandOutOfRange c.word ↔ operandsInRange (assembleOperands c o) = false := by
  have hop := opNumber_of_opcodeOf h
  cases o with
  | CAL_MAP => simp [OperandOutOfRange, hop, opcodeCode, assembleOperands, operandsInRange, mapRangeOk, bits]
  | VEL_PUSH => simp [OperandOutOfRange, hop, opcodeCode, assembleOperands, operandsInRange, angleOk, bits]
  | _ => simp [OperandOutOfRange, hop, opcodeCode, assembleOperands, operandsInRange]

/-! ### The step -/

section

variable {s : State} {c : Command} {rest : List Command} (hin : s.inbox = c :: rest)
include hin

theorem step_of_illegal {e : DecodeError} (h : decode c = .illegal e) : step s = .refused (refusalOf e) := by
  rw [step_cons hin, h]

/-- A word with neither a reserved op nor a reserved bit has an opcode, and the step performs that operation. -/
theorem step_of_not_reserved (hop : ¬ (0xA ≤ opNumber c.word ∧ opNumber c.word ≤ 0xD))
    (hbits : ¬ ReservedBitSet c.word) :
    ∃ o, opcodeOf c.word = some o ∧ step s = exec (assembleOperands c o) s.take := by
  obtain ⟨-, -, hdecodes⟩ := decodeRefusesExactlyReserved c
  obtain ⟨i, hdec⟩ := hdecodes.mpr ⟨hop, hbits⟩
  obtain ⟨o, hcode, -, rfl⟩ := decode_eq_ok_iff.mp hdec
  exact ⟨o, (opcodeOf_eq_some_iff c.word o).mpr hcode, by rw [step_cons hin, hdec]⟩

end

/-- Settles O10: the decoder's two reasons come first; then CONFIGURE answers by its record alone, and every other
operation by `perform`, whose order is R252's. -/
theorem stepRefusesInReasonOrder : Obligations.StepRefusesInReasonOrder := by
  intro s c rest hin
  refine ⟨fun hop => step_of_illegal hin ((decode_eq_reservedOp_iff c).mpr hop),
    fun _ hbits => step_of_illegal hin ((decode_eq_reservedBits_iff c).mpr hbits), fun hop hbits => ?_⟩
  obtain ⟨o, ho, hstep⟩ := step_of_not_reserved hin hop hbits
  rw [Ne, opNumber_eq_configure_iff ho, operandOutOfRange_iff ho, hstep]
  by_cases hcfg : o = .CONFIGURE
  case pos =>
    subst hcfg
    refine ⟨fun h => absurd rfl h.1, fun _ => ⟨fun hrange => Bool.noConfusion hrange, fun _ => ⟨?illegal, ?legal⟩⟩⟩
    case illegal => exact fun h => exec_configure_of_not_legalRecord h.2 s.take
    case legal =>
      intro h
      have hlegal : LegalRecord c.side := not_not.mp fun hl => h ⟨rfl, hl⟩
      exact ⟨_, exec_configure_of_legalRecord hlegal s.take⟩
  case neg =>
    have hi : opcodeOfInstr (assembleOperands c o) ≠ .CONFIGURE := by rwa [opcodeOfInstr_assembleOperands]
    refine ⟨fun h => exec_of_unconfigured hi h.2, fun h => ?_⟩
    have hc : s.configured = true := eq_true_of_ne_false fun hc => h ⟨hcfg, hc⟩
    exact ⟨exec_of_operands_out_of_range hi hc, fun hrange =>
      ⟨fun hbad => absurd hbad.1 hcfg, fun _ => exists_exec_eq_next hi hc (eq_true_of_ne_false hrange)⟩⟩

end Sys2Proof.Machine
end

section
/-! R80 to R91: decoding and encoding are inverse. The fields of a format are disjoint, so each reads back alone; with
the reserved row they cover the word, so a word without a reserved bit is the union of its fields. -/

namespace Sys2Proof.Machine

/-! ### Fields of a word -/

/-- A field placed elsewhere reads as 0. -/
theorem bits_place_of_disjoint {n lo lo' n' : Nat} (v : BitVec n) (h : lo' + n' ≤ lo ∨ lo + n ≤ lo') :
    bits (place n v lo) lo' n' = 0 := by
  apply BitVec.eq_of_getLsbD_eq
  intro j hj
  rw [getLsbD_bits, getLsbD_place]
  obtain hbelow | habove := h
  · have : ¬ lo ≤ lo' + j := by omega
    simp [this]
  · have : v.getLsbD (lo' + j - lo) = false := BitVec.getLsbD_of_ge v _ (by omega)
    simp [this]

@[simp] theorem bits_zero (lo n : Nat) : bits 0 lo n = 0 := by
  apply BitVec.eq_of_getLsbD_eq
  intro j _
  simp [getLsbD_bits]

/-- A single bit is a field of width 1 (R82). -/
theorem ofBool_bit (w : CommandWord) (i : Nat) : BitVec.ofBool (bit w i) = bits w i 1 := by
  apply BitVec.eq_of_getLsbD_eq
  intro j hj
  obtain rfl : j = 0 := by omega
  rw [getLsbD_bits]
  simp [bit]

theorem bit_eq_of_bits_eq_ofBool {w : CommandWord} {i : Nat} {b : Bool} (h : bits w i 1 = BitVec.ofBool b) :
    bit w i = b := by
  simpa using congrArg (fun v => v.getLsbD 0) ((ofBool_bit w i).trans h)

theorem placeBit_bit (w : CommandWord) (i : Nat) : placeBit (bit w i) i = place 1 (bits w i 1) i := by
  rw [placeBit, ofBool_bit]

/-! ### Decoding an encoded operation -/

/-- An encoded word has no reserved bit: every field of its format lies outside the reserved row (R82 to R89). -/
theorem encodeWord_and_reservedMask (i : Instr) :
    encodeWord i &&& reservedMask (opcodeFormat (opcodeOfInstr i)) = 0 := by
  rw [and_reservedMask_eq_zero_iff]
  cases i <;> simp (disch := simp [opcodeOfInstr, opcodeFormat, reservedLo, reservedWidth])
    [encodeWord, operandWord, placeBit, bits_or, bits_place_of_disjoint]

/-- The operand fields read back what was placed (R82 to R90); CONFIGURE's record is the side record (R89). -/
theorem assembleOperands_encode (i : Instr) : assembleOperands (encode i) (opcodeOfInstr i) = i := by
  cases i with
  | tick raw level now rdy_gp rdy_kb =>
    have hgp : bit (encodeWord (.tick raw level now rdy_gp rdy_kb)) 27 = rdy_gp := bit_eq_of_bits_eq_ofBool (by
      simp (disch := omega) [encodeWord, operandWord, placeBit, bits_or, bits_place, bits_place_of_disjoint])
    have hkb : bit (encodeWord (.tick raw level now rdy_gp rdy_kb)) 28 = rdy_kb := bit_eq_of_bits_eq_ofBool (by
      simp (disch := omega) [encodeWord, operandWord, placeBit, bits_or, bits_place, bits_place_of_disjoint])
    simp only [opcodeOfInstr, assembleOperands, encode, hgp, hkb]
    simp (disch := omega) [encodeWord, operandWord, placeBit, bits_or, bits_place, bits_place_of_disjoint]
  | configure _ => rfl
  | _ =>
    simp (disch := omega) [opcodeOfInstr, assembleOperands, encode, encodeWord, operandWord, bits_or, bits_place,
      bits_place_of_disjoint]

/-- The op field of every operation's word is its opcode's code (R80, R81). -/
theorem bits_encodeWord_op (i : Instr) : bits (encodeWord i) 0 4 = opcodeCode (opcodeOfInstr i) := by
  cases i with
  | tick raw level now g k => exact (Laws.OpField.tick raw level now g k).1
  | filter raw => exact (Laws.OpField.filter raw).1
  | calObserve x => exact (Laws.OpField.calObserve x).1
  | calMap v lo hi => exact (Laws.OpField.calMap v lo hi).1
  | calReset x => exact (Laws.OpField.calReset x).1
  | velPush a t => exact (Laws.OpField.velPush a t).1
  | velClear => exact Laws.OpField.velClear.1
  | gateAccept cand dth dt => exact (Laws.OpField.gateAccept cand dth dt).1
  | modeStep level => exact (Laws.OpField.modeStep level).1
  | buildReport level => exact (Laws.OpField.buildReport level).1
  | configure r => exact (Laws.OpField.configure r).1
  | por => exact Laws.OpField.por.1

/-- Settles O2: the op field names the opcode, no reserved bit is set, and the operand fields read back. -/
theorem decodeInvertsEncode : Obligations.DecodeInvertsEncode := fun i =>
  decode_eq_ok_iff.mpr
    ⟨opcodeOfInstr i, bits_encodeWord_op i, encodeWord_and_reservedMask i, assembleOperands_encode i⟩

/-! ### Encoding a decoded word -/

/-- The fields of a format cover every bit outside its reserved row, and only those (R82 to R89). -/
theorem getLsbD_encodeWord_assembleOperands {c : Command} {o : Opcode} (hop : bits c.word 0 4 = opcodeCode o) {j : Nat}
    (hj : j < 64) :
    (encodeWord (assembleOperands c o)).getLsbD j = true ↔
      ¬ (reservedLo (opcodeFormat o) ≤ j ∧ j < reservedLo (opcodeFormat o) + reservedWidth (opcodeFormat o))
        ∧ c.word.getLsbD j = true := by
  rw [encodeWord, opcodeOfInstr_assembleOperands, ← hop]
  cases hbit : c.word.getLsbD j
  case false =>
    cases o <;> simp [assembleOperands, operandWord, placeBit_bit, getLsbD_place_bits, hbit]
  case true =>
    cases o <;>
      simp [assembleOperands, operandWord, placeBit_bit, getLsbD_place_bits, hbit, opcodeFormat, reservedLo,
        reservedWidth] <;> omega

/-- Settles O3: bit by bit, a bit of the word is in a field of its format or in the reserved row, where it is 0. -/
theorem decodedWordIsItsEncoding : Obligations.DecodedWordIsItsEncoding := by
  intro c i hdec
  obtain ⟨o, hop, hmask, rfl⟩ := decode_eq_ok_iff.mp hdec
  refine ⟨BitVec.eq_of_getLsbD_eq fun j hj => ?bit, fun r hr => ?record⟩
  case bit =>
    rw [Bool.eq_iff_iff, getLsbD_encodeWord_assembleOperands hop hj]
    refine ⟨And.right, fun hset => ⟨fun hres => ?_, hset⟩⟩
    have hmaskbit : (reservedMask (opcodeFormat o)).getLsbD j = true := by
      rw [reservedMask_eq_place, getLsbD_place_allOnes (reservedLo_add_reservedWidth_le _), decide_eq_true hres]
    exact Bool.noConfusion (hset.symm.trans (getLsbD_of_and_eq_zero hmask hmaskbit))
  case record =>
    obtain rfl : o = .CONFIGURE := by
      rw [← opcodeOfInstr_assembleOperands c o, hr]
      rfl
    injection hr with hside
    exact hside.symm

/-! ### The opcode table -/

/-- Each row of spec/opcode_table.json tests the op field for the row's code and the reserved row for 0: a check of the
twelve rows. -/
theorem opcodeTable_row : ∀ row ∈ opcodeTable,
    row.mask = place 4 (BitVec.allOnes 4) 0 ||| reservedMask (opcodeFormat row.opcode)
      ∧ row.pattern = place 4 (opcodeCode row.opcode) 0 := by
  decide

/-- No reserved row meets the op field (R80). -/
theorem bits_reservedMask_op (f : Format) : bits (reservedMask f) 0 4 = 0 := by
  cases f <;> decide

/-- A mask of ones over a field keeps exactly that field. -/
theorem and_place_allOnes (w : CommandWord) {lo n : Nat} (h : lo + n ≤ 64) :
    w &&& place n (BitVec.allOnes n) lo = place n (bits w lo n) lo := by
  apply BitVec.eq_of_getLsbD_eq
  intro j _
  rw [BitVec.getLsbD_and, getLsbD_place_allOnes h, getLsbD_place_bits, Bool.decide_and, Bool.and_comm]

theorem bits_and (a b : CommandWord) (lo n : Nat) : bits (a &&& b) lo n = bits a lo n &&& bits b lo n := by
  apply BitVec.eq_of_getLsbD_eq
  intro j hj
  simp only [getLsbD_bits, BitVec.getLsbD_and, hj, decide_true, Bool.true_and]

/-- A field is disjoint from a mask that is 0 on it. -/
theorem place_and_eq_zero {n lo : Nat} (v : BitVec n) {m : CommandWord} (hm : bits m lo n = 0) :
    place n v lo &&& m = 0 := by
  apply BitVec.eq_of_getLsbD_eq
  intro j _
  rw [BitVec.getLsbD_and, getLsbD_place]
  by_cases hlo : lo ≤ j
  · have hbit : (decide (j - lo < n) && m.getLsbD j) = false := by
      rw [← Nat.add_sub_cancel' hlo, Nat.add_sub_cancel_left, ← getLsbD_bits, hm]
      exact BitVec.getLsbD_zero
    obtain hn | hn := Bool.and_eq_false_iff.mp hbit
    · simp [BitVec.getLsbD_of_ge v (j - lo) (by simpa using hn)]
    · simp [hn]
  · simp [hlo]

/-- A word matches an op code under a mask of the op field and bits above it when its op field is the code and those
bits are 0. -/
theorem and_opMask_or_eq_iff (w : CommandWord) {m : CommandWord} (hm : bits m 0 4 = 0) (code : BitVec 4) :
    w &&& (place 4 (BitVec.allOnes 4) 0 ||| m) = place 4 code 0 ↔ bits w 0 4 = code ∧ w &&& m = 0 := by
  constructor
  · intro h
    have hop : bits w 0 4 = code := by
      have hfield := congrArg (fun v => bits v 0 4) h
      simp only [bits_and, bits_or, bits_place _ (show 0 + 4 ≤ 64 by omega), hm] at hfield
      exact BitVec.and_allOnes.symm.trans hfield
    have hmask : w &&& m = 0 := calc
      w &&& m = w &&& (place 4 (BitVec.allOnes 4) 0 ||| m) &&& m := by
        rw [BitVec.and_assoc, BitVec.and_or_distrib_right, place_and_eq_zero _ hm, BitVec.and_self]
        exact congrArg (w &&& ·) BitVec.zero_or.symm
      _ = 0 := by rw [h, place_and_eq_zero code hm]
    exact ⟨hop, hmask⟩
  · rintro ⟨rfl, hmask⟩
    calc w &&& (place 4 (BitVec.allOnes 4) 0 ||| m)
        = w &&& place 4 (BitVec.allOnes 4) 0 ||| w &&& m := BitVec.and_or_distrib_left
      _ = place 4 (bits w 0 4) 0 := by rw [hmask, and_place_allOnes w (by omega)]; exact BitVec.or_zero

/-- Settles O5: a row's mask is the op field and the reserved row, the two tests `decode` makes. -/
theorem decodeFollowsOpcodeTable : Obligations.DecodeFollowsOpcodeTable := by
  intro c row hrow
  obtain ⟨hmask, hpattern⟩ := opcodeTable_row row hrow
  rw [hmask, hpattern, and_opMask_or_eq_iff _ (bits_reservedMask_op _)]
  constructor
  · rintro ⟨hop, hres⟩
    exact ⟨_, decode_eq_ok_iff.mpr ⟨row.opcode, hop, hres, rfl⟩, opcodeOfInstr_assembleOperands c row.opcode⟩
  · rintro ⟨i, hdec, hrowop⟩
    obtain ⟨o, hop, hres, rfl⟩ := decode_eq_ok_iff.mp hdec
    obtain rfl : o = row.opcode := (opcodeOfInstr_assembleOperands c o).symm.trans hrowop
    exact ⟨hop, hres⟩

end Sys2Proof.Machine
end

section
/-! R93: an assembler line's operands fit their fields and read back. -/

namespace Sys2Proof

@[simp] theorem asmUnsigned_toNat {n : Nat} (v : BitVec n) : asmUnsigned n v.toNat = some v := by
  have hlt : (v.toNat : Int) < 2 ^ n := by exact_mod_cast v.isLt
  rw [asmUnsigned, if_pos ⟨Int.natCast_nonneg _, hlt⟩, BitVec.ofInt_natCast, BitVec.ofNat_toNat, BitVec.setWidth_eq]

@[simp] theorem asmSigned_toInt {n : Nat} (v : BitVec n) : asmSigned n v.toInt = some v := by
  rw [asmSigned, if_pos ⟨BitVec.le_two_mul_toInt, BitVec.two_mul_toInt_lt⟩, BitVec.ofInt_toInt]

@[simp] theorem asmBit_ite (b : Bool) : asmBit (if b then 1 else 0) = some b := by
  cases b <;> rfl

/-- Settles O6: each operand is read back by the lemma of its kind; CONFIGURE's record is the line's. -/
theorem assemblerLineReadsBack : Obligations.AssemblerLineReadsBack := by
  intro i side hside
  cases i with
  | configure newcfg => rw [hside newcfg rfl]; rfl
  | _ => simp [assemble, opcodeOfInstr, asmOperands]

end Sys2Proof
end

section
/-! R81, R92, R251: all that an operation can do. It goes on exactly when it is admitted, and then leaves one state,
with one event; `exec_next_iff` says so once, and the frames, the invariant and the refusals follow from it. -/

namespace Sys2Proof.Machine

/-! ### What an admitted operation does -/

/-- The state an admitted operation leaves, before its event is traced. -/
def State.after (s : State) : Instr → State
  | .tick raw level now _ _ => s.runTick raw level now
  | .filter raw => s.runFilter raw
  | .calObserve x => s.runObserve x
  | .calMap _ _ _ => s
  | .calReset x => s.runCalReset x
  | .velPush a t => s.runVelPush a t
  | .velClear => s.runVelClear
  | .gateAccept cand dth dt => s.runGate cand dth dt
  | .modeStep level => s.runModeStep level
  | .buildReport _ => s
  | .configure r => s.accept r
  | .por => s.powerOnReset

/-- What an admitted operation drives or returns, and the conditions met in it. -/
def State.eventOf (s : State) : Instr → Event
  | .tick raw level now g k =>
    ⟨.tick (portsOf ((s.runTick raw level now).report level) g k), s.tickConditions raw now⟩
  | .filter raw => ⟨.filter (s.runFilter raw).flt.f_stable, []⟩
  | .calObserve x =>
    ⟨.calObserve (s.runObserve x).cal.c_min (s.runObserve x).cal.c_max,
      condWhen (observeDegen s.cfg s.cal x) .DEGEN_RANGE⟩
  | .calMap v lo hi =>
    ⟨.calMap (BitVec.ofNat 9 (mapf s.cfg.ROUNDING s.cal v.toNat lo.toNat hi.toNat)),
      condWhen (degenRange s.cal) .DEGEN_RANGE⟩
  | .calReset _ => ⟨.calReset, []⟩
  | .velPush a t =>
    ⟨.velPush (s.runVelPush a t).dth (s.runVelPush a t).dt (dvalidOf (s.runVelPush a t).dt),
      condWhen (!dvalidOf (s.runVelPush a t).dt) .DT_ZERO⟩
  | .velClear => ⟨.velClear, []⟩
  | .gateAccept _ dth dt =>
    ⟨.gateAccept (gateAccepts s.cfg dth dt), condWhen (s.cfg.GATE_EN && dt == 0) .DT_ZERO⟩
  | .modeStep level => ⟨.modeStep (s.action level), []⟩
  | .buildReport level => ⟨.buildReport (s.report level), []⟩
  | .configure _ => ⟨.configure, []⟩
  | .por => ⟨.por, []⟩

/-- The state after an admitted operation, its event traced. -/
def State.done (s : State) (i : Instr) : State :=
  (s.after i).emit (s.eventOf i).output (s.eventOf i).conditions

/-- The conditions of R236, R90 and R21 under which an operation goes on. -/
def State.Admits (s : State) (i : Instr) : Prop :=
  i.wellFormed = true ∧ (s.configured = true ∨ ∃ r, i = .configure r)

theorem opcodeOfInstr_ne_configure_iff (i : Instr) : opcodeOfInstr i ≠ .CONFIGURE ↔ ∀ r, i ≠ .configure r := by
  cases i <;> simp [opcodeOfInstr]

theorem exec_eq_perform_done {i : Instr} (hi : ∀ r, i ≠ .configure r) (s : State) :
    exec i s = perform s i.wellFormed (s.after i) (s.eventOf i).output (s.eventOf i).conditions := by
  cases i with
  | configure r => exact absurd rfl (hi r)
  | _ => rfl

/-- All that an operation can answer when it goes on: the one inversion lemma of `exec`. -/
theorem exec_next_iff {i : Instr} {s t : State} : exec i s = .next t ↔ s.Admits i ∧ t = s.done i := by
  by_cases hi : ∃ r, i = .configure r
  case pos =>
    obtain ⟨r, rfl⟩ := hi
    have hadmits : s.Admits (.configure r) ↔ cfgLegal r = true := ⟨And.left, fun h => ⟨h, .inr ⟨r, rfl⟩⟩⟩
    rw [hadmits]
    cases hlegal : cfgLegal r
    case false => simp [exec_configure_illegal hlegal]
    case true =>
      rw [exec_configure hlegal]
      simp [State.done, State.after, State.eventOf, @eq_comm _ t]
  case neg =>
    rw [exec_eq_perform_done (not_exists.mp hi), perform_next_iff, State.Admits, State.done]
    simp only [hi, or_false, and_comm, and_assoc]

theorem exec_eq_done {i : Instr} {s : State} (h : s.Admits i) : exec i s = .next (s.done i) :=
  exec_next_iff.mpr ⟨h, rfl⟩

/-- All that an operation can answer when it is not admitted (R251). -/
theorem exec_refused_of_not_admits {i : Instr} {s : State} (h : ¬ s.Admits i) :
    ∃ why ∈ [Refusal.unconfigured, .operandRange, .badConfig], exec i s = .refused why := by
  by_cases hi : ∃ r, i = .configure r
  case pos =>
    obtain ⟨r, rfl⟩ := hi
    have hlegal : cfgLegal r = false := Bool.eq_false_iff.mpr fun hr => h ⟨hr, .inr ⟨r, rfl⟩⟩
    exact ⟨.badConfig, by simp, exec_configure_illegal hlegal⟩
  case neg =>
    rw [exec_eq_perform_done (not_exists.mp hi)]
    cases hc : s.configured
    case false => exact ⟨.unconfigured, by simp, perform_refused_iff.mpr (.inl ⟨hc, rfl⟩)⟩
    case true =>
      have hw : i.wellFormed = false := Bool.eq_false_iff.mpr fun hw => h ⟨hw, .inl hc⟩
      exact ⟨.operandRange, by simp, perform_refused_iff.mpr (.inr ⟨hc, hw, rfl⟩)⟩

/-! ### What every operation leaves -/

@[simp] theorem State.after_inbox (s : State) (i : Instr) : (s.after i).inbox = s.inbox := by
  cases i <;> simp [State.after]

@[simp] theorem State.after_trace (s : State) (i : Instr) : (s.after i).trace = s.trace := by
  cases i <;> simp [State.after]

theorem State.after_configured {s : State} {i : Instr} (h : s.configured = true ∨ ∃ r, i = .configure r) :
    (s.after i).configured = true := by
  obtain hc | ⟨r, rfl⟩ := h
  · cases i <;> simp [State.after, hc]
  · rfl

/-- Settles O11: by `exec_next_iff`, and because no operation writes the inbox or the trace itself. -/
theorem operationCompletesExactlyWhenAdmitted : Obligations.OperationCompletesExactlyWhenAdmitted := by
  refine fun i s => ⟨⟨fun ⟨_, h⟩ => (exec_next_iff.mp h).1, fun h => ⟨_, exec_eq_done h⟩⟩, fun t h => ?_⟩
  obtain ⟨⟨-, hadmit⟩, rfl⟩ := exec_next_iff.mp h
  exact ⟨State.after_configured hadmit, s.after_inbox i, s.eventOf i, congrArg (· ++ _) (s.after_trace i)⟩

/-- Settles O18: `exec_next_iff` names the state left, and the update lemmas of each operation its fields. -/
theorem registersHaveTheirWriters : Obligations.RegistersHaveTheirWriters := by
  intro i s t h
  obtain ⟨-, rfl⟩ := exec_next_iff.mp h
  cases i with
  | calMap v lo hi => simp [State.done, State.after, State.sameBlock_emit]
  | buildReport level => simp [State.done, State.after, State.sameBlock_emit]
  | _ => simp [State.done, State.after, opcodeOfInstr]

/-! ### A step -/

/-- All that a step on a word can answer when it goes on. -/
theorem step_next_cons {s t : State} {c : Command} {rest : List Command} (hin : s.inbox = c :: rest)
    (h : step s = .next t) : ∃ i, decode c = .ok i ∧ exec i s.take = .next t := by
  rw [step_cons hin] at h
  cases hdec : decode c with
  | illegal e => simp [hdec] at h
  | ok i => exact ⟨i, rfl, by simpa [hdec] using h⟩

/-- Settles O8: `step_cons` on a word that decodes. -/
theorem stepRunsDecodedWord : Obligations.StepRunsDecodedWord := by
  intro s c rest i hin hdec
  have htake : s.take = { s with inbox := rest } := by rw [State.take, hin, List.tail_cons]
  rw [step_cons hin, hdec, ← htake]

/-- Settles O9: `step_nil` is the claim. -/
theorem stepWaitsForAWord : Obligations.StepWaitsForAWord := fun _ h => step_nil h

/-- Settles O14: the decoder's two reasons, then those of `exec_refused_of_not_admits`; an admitted operation goes
on. -/
theorem everyStepGoesOnOrRefusesByReason : Obligations.EveryStepGoesOnOrRefusesByReason := by
  intro s
  cases hin : s.inbox with
  | nil => exact .inl ⟨s, step_nil hin⟩
  | cons c rest =>
    cases hdec : decode c with
    | illegal e =>
      refine .inr ⟨refusalOf e, ?_, List.cons_ne_nil _ _, step_of_illegal hin hdec⟩
      cases e <;> simp [refusalOf]
    | ok i =>
      have hstep : step s = exec i s.take := by rw [step_cons hin, hdec]
      by_cases hadmits : s.take.Admits i
      · exact .inl ⟨_, hstep.trans (exec_eq_done hadmits)⟩
      · obtain ⟨why, hwhy, hexec⟩ := exec_refused_of_not_admits hadmits
        exact .inr ⟨why, List.mem_cons_of_mem _ (List.mem_cons_of_mem _ hwhy), List.cons_ne_nil _ _,
          hstep.trans hexec⟩

/-- Settles O12: an unconfigured block admits CONFIGURE alone, and the record it accepts is the side record (R89). -/
theorem unconfiguredRefusesEveryOtherOperation : Obligations.UnconfiguredRefusesEveryOtherOperation := by
  refine ⟨rfl, fun i s hc hi => exec_of_unconfigured ((opcodeOfInstr_ne_configure_iff i).mpr hi) hc,
    fun s t c rest hin hc hstep => ?_⟩
  obtain ⟨i, hdec, hexec⟩ := step_next_cons hin hstep
  obtain ⟨⟨-, hconf | ⟨r, rfl⟩⟩, rfl⟩ := exec_next_iff.mp hexec
  · rw [State.take_configured, hc] at hconf
    exact Bool.noConfusion hconf
  · obtain ⟨-, hside⟩ := decodedWordIsItsEncoding c _ hdec
    obtain rfl : r = c.side := hside r rfl
    exact ⟨hdec, rfl, rfl⟩

/-! ### Runs of issued words -/

section
variable {r : Run} {c : Command}

theorem Run.issue_of_next {t : State} (h : step { r.state with inbox := [c] } = .next t) :
    r.issue c = { r with state := t } := by
  simp only [Run.issue, h]

theorem Run.issue_of_refused {why : Refusal} (h : step { r.state with inbox := [c] } = .refused why) :
    r.issue c = { r with mark := some (r.mark.getD why) } := by
  simp only [Run.issue, h]

end

/-- A word issued to a run goes on or is refused: there is no fault (R250). -/
theorem step_next_or_refused (s : State) : (∃ t, step s = .next t) ∨ ∃ why, step s = .refused why :=
  (everyStepGoesOnOrRefusesByReason s).imp_right fun ⟨why, _, _, h⟩ => ⟨why, h⟩

theorem Run.issueAll_cons (r : Run) (c : Command) (cs : List Command) :
    r.issueAll (c :: cs) = (r.issue c).issueAll cs := rfl

theorem Run.issueAll_append (r : Run) (pre post : List Command) :
    r.issueAll (pre ++ post) = (r.issueAll pre).issueAll post := List.foldl_append

theorem Run.issue_mark_of_marked {r : Run} {why : Refusal} (h : r.mark = some why) (c : Command) :
    (r.issue c).mark = some why := by
  obtain ⟨t, ht⟩ | ⟨why', hr⟩ := step_next_or_refused { r.state with inbox := [c] }
  · rw [Run.issue_of_next ht, h]
  · rw [Run.issue_of_refused hr, h, Option.getD_some]

theorem Run.issueAll_mark_of_marked {why : Refusal} (cs : List Command) {r : Run} (h : r.mark = some why) :
    (r.issueAll cs).mark = some why := by
  induction cs generalizing r with
  | nil => exact h
  | cons c cs ih => exact ih (Run.issue_mark_of_marked h c)

/-- Settles O13: a refusal marks the run, and `Run.issueAll_mark_of_marked` keeps the mark to its end. -/
theorem refusalMarkIsKept : Obligations.RefusalMarkIsKept := by
  refine ⟨fun r c why h => ?refused, fun r cs why h => Run.issueAll_mark_of_marked cs h,
    fun r pre post c h => ?unmarked⟩
  case refused =>
    rw [Run.issue_of_refused h]
    exact ⟨rfl, rfl⟩
  case unmarked =>
    refine (step_next_or_refused _).resolve_right fun ⟨why, hr⟩ => ?_
    rw [Run.issueAll_append, Run.issueAll_cons, Run.issue_of_refused hr, Run.issueAll_mark_of_marked post rfl] at h
    exact Option.some_ne_none _ h

/-! ### The host's side -/

/-- The same registers with another inbox and another trace. -/
def State.hosted (s : State) (inbox : List Command) (trace : List Event) : State :=
  { s with inbox := inbox, trace := trace }

theorem State.SameBlock.eq_hosted {s s' : State} (h : s.SameBlock s') : s' = s.hosted s'.inbox s'.trace := by
  obtain ⟨hcfg, hconf, hflt, hcal, hhist, haxis, hmode⟩ := h
  cases s'
  simp_all [State.hosted]

theorem State.runModeStep_hosted (s : State) (inbox : List Command) (trace : List Event) (level : Level) :
    (s.hosted inbox trace).runModeStep level = (s.runModeStep level).hosted inbox trace := by
  have haction : (s.hosted inbox trace).action level = s.action level := rfl
  rw [State.runModeStep, State.runModeStep, haction]
  cases s.action level <;> rfl

/-- An operation's writes read neither the inbox nor the trace (R67, R239). -/
theorem State.after_hosted (s : State) (inbox : List Command) (trace : List Event) (i : Instr) :
    (s.hosted inbox trace).after i = (s.after i).hosted inbox trace := by
  cases i with
  | tick raw level now g k => exact (s.tickGated raw now).runModeStep_hosted inbox trace level
  | modeStep level => exact s.runModeStep_hosted inbox trace level
  | _ => rfl

/-- Nor does what it drives or returns. -/
theorem State.eventOf_hosted (s : State) (inbox : List Command) (trace : List Event) (i : Instr) :
    (s.hosted inbox trace).eventOf i = s.eventOf i := by
  cases i with
  | tick raw level now g k =>
    have htick : (s.hosted inbox trace).runTick raw level now = (s.runTick raw level now).hosted inbox trace :=
      s.after_hosted inbox trace (.tick raw level now g k)
    rw [State.eventOf, htick]
    rfl
  | _ => rfl

theorem State.done_hosted (s : State) (inbox : List Command) (trace : List Event) (i : Instr) :
    (s.hosted inbox trace).done i =
      ((s.after i).hosted inbox trace).emit (s.eventOf i).output (s.eventOf i).conditions := by
  rw [State.done, State.after_hosted, State.eventOf_hosted]

theorem exec_refused_hosted {i : Instr} {s : State} {why : Refusal} (h : exec i s = .refused why)
    (inbox : List Command) (trace : List Event) : exec i (s.hosted inbox trace) = .refused why := by
  by_cases hi : ∃ r, i = .configure r
  case pos =>
    obtain ⟨r, rfl⟩ := hi
    cases hlegal : cfgLegal r
    case false => rwa [exec_configure_illegal hlegal] at h ⊢
    case true => simp [exec_configure hlegal] at h
  case neg =>
    rw [exec_eq_perform_done (not_exists.mp hi), perform_refused_iff] at h ⊢
    exact h

/-- Settles O19: the second state is the first with another inbox and trace, which commute with every operation. -/
theorem blockIgnoresTraceAndInbox : Obligations.BlockIgnoresTraceAndInbox := by
  intro i s s' hsame
  rw [hsame.eq_hosted]
  generalize s'.inbox = inbox
  generalize s'.trace = trace
  refine ⟨fun t h => ?next, fun why h => exec_refused_hosted h inbox trace⟩
  obtain ⟨hadmits, rfl⟩ := exec_next_iff.mp h
  refine ⟨_, s.eventOf i, exec_eq_done hadmits, ?block, congrArg (· ++ _) (s.after_trace i), ?trace⟩
  case block =>
    rw [State.done_hosted]
    exact ⟨rfl, rfl, rfl, rfl, rfl, rfl, rfl⟩
  case trace =>
    rw [State.done_hosted]
    rfl

/-- POR on a configured block, and CONFIGURE with its own record, leave the same registers (R235, R237). -/
theorem State.powerOnReset_sameBlock_accept {s : State} (hc : s.configured = true) :
    s.powerOnReset.SameBlock (s.accept s.cfg) :=
  ⟨rfl, hc.symm, rfl, rfl, rfl, rfl, rfl⟩

/-- Settles O51: the two registers' states are the same block, so by `blockIgnoresTraceAndInbox` every operation answers
alike from them. -/
theorem porEqualsReconfigure : Obligations.PorEqualsReconfigure := by
  intro s i hinv hc
  have hsame : (s.powerOnReset.emit .por []).SameBlock ((s.accept s.cfg).emit .configure []) :=
    State.powerOnReset_sameBlock_accept hc
  refine ⟨_, _, exec_por hc, exec_configure hinv.legal, hsame, fun t' h => ?_⟩
  obtain ⟨hnext, -⟩ := blockIgnoresTraceAndInbox i _ _ hsame
  obtain ⟨u', -, hexec, hsame', -, -⟩ := hnext t' h
  exact ⟨u', hexec, hsame'⟩

/-! ### The worked words -/

/-- A worked word is checked by encoding the operation; decoding it back is `decodeInvertsEncode`. -/
theorem decode_of_encodeWord_eq {i : Instr} {w : CommandWord} (hword : encodeWord i = w)
    (hside : encodeSide i = .powerOn) : decode ⟨w, .powerOn⟩ = .ok i ∧ encodeWord i = w := by
  refine ⟨?_, hword⟩
  rw [← hword, ← hside]
  exact decodeInvertsEncode i

/-- Settles O1: the six operations encode to the words of R95. -/
theorem decodeWorkedWords : Obligations.DecodeWorkedWords :=
  ⟨decode_of_encodeWord_eq (by decide) rfl, decode_of_encodeWord_eq (by decide) rfl,
    decode_of_encodeWord_eq (by decide) rfl, decode_of_encodeWord_eq (by decide) rfl,
    decode_of_encodeWord_eq (by decide) rfl, decode_of_encodeWord_eq (by decide) rfl⟩

end Sys2Proof.Machine
end

section
/-! R21, R25, R29, R31, R40: the invariant. Each component's operation keeps its registers fit, so each operation keeps
`State.Inv`, and so does a step. -/

namespace Sys2Proof.Machine

theorem State.Inv.legalRecord {s : State} (h : s.Inv) : LegalRecord s.cfg := (cfgLegal_iff_legalRecord s.cfg).mp h.legal

/-! ### The calibrator's bounds -/

/-- R136: the range is set and holds the sample, so its bounds are in order. -/
def CalRegs.Holds (c : CalRegs) (x : Sample) : Prop :=
  c.c_set = true ∧ c.c_min.toNat ≤ x.toNat ∧ x.toNat ≤ c.c_max.toNat

/-- R131: the expanding update ends with the sample in the range. -/
theorem widen_holds (c : CalRegs) (x : Sample) : (widen c x).Holds x := by
  cases hset : c.c_set
  case false => simp [widen, hset, CalRegs.Holds]
  case true =>
    rw [widen_of_set hset (sampleMin_toNat c.c_min x) (sampleMax_toNat c.c_max x)]
    refine ⟨hset, ?_, ?_⟩
    · rw [sampleMin_toNat]; omega
    · rw [sampleMax_toNat]; omega

/-- R134: a bound moves a tenth of the way to the sample, so it does not pass it. -/
theorem reanchor_holds (cfg : CfgRecord) {w : CalRegs} {x : Sample} (h : w.Holds x) : (reanchor cfg w x).Holds x := by
  obtain ⟨hset, hmin, hmax⟩ := h
  simp only [reanchor]
  split_ifs
  · exact ⟨hset, by rw [reanchored_toNat]; omega, hmax⟩
  · exact ⟨hset, hmin, by rw [reanchored_toNat]; omega⟩
  · exact ⟨hset, hmin, hmax⟩

theorem observedBounds_holds (cfg : CfgRecord) (c : CalRegs) (x : Sample) : (observedBounds cfg c x).Holds x := by
  rw [observedBounds]
  split
  · exact reanchor_holds cfg (widen_holds c x)
  · exact widen_holds c x

theorem observeRegs_holds (cfg : CfgRecord) (c : CalRegs) (x : Sample) : (observeRegs cfg c x).Holds x :=
  observedBounds_holds cfg c x

theorem CalRegs.Holds.min_le_max {c : CalRegs} {x : Sample} (h : c.Holds x) : c.c_min.toNat ≤ c.c_max.toNat := by
  obtain ⟨-, hmin, hmax⟩ := h
  exact hmin.trans hmax

/-- Settles O25: under either policy CAL_OBSERVE ends with the sample in the range. -/
theorem calObserveRangeHoldsSample : Obligations.CalObserveRangeHoldsSample := by
  intro s x hc _
  obtain ⟨hset, hmin, hmax⟩ := observeRegs_holds s.cfg s.cal x
  exact ⟨_, exec_calObserve hc x, hset, hmin, hmax, hmin.trans hmax⟩

/-! ### Each component's registers stay fit -/

theorem observeRegs_fits (cfg : CfgRecord) (c : CalRegs) (x : Sample) : (observeRegs cfg c x).Fits cfg where
  min_le_max _ := (observeRegs_holds cfg c x).min_le_max
  unset_only h := Bool.noConfusion (h.symm.trans (observeRegs_holds cfg c x).1)
  prev_zero h := Bool.noConfusion h

theorem calResetRegs_fits (cfg : CfgRecord) (x : Sample) : (calResetRegs x).Fits cfg where
  min_le_max _ := le_rfl
  unset_only h := Bool.noConfusion h
  prev_zero _ := rfl

theorem clearedHist_fits (cfg : CfgRecord) : (clearedHist cfg).Fits cfg where
  angle_length := List.length_replicate
  ts_length := List.length_replicate
  angle_lt a ha := by
    rw [List.eq_of_mem_replicate ha]
    decide

theorem resetFilter_fits {cfg : CfgRecord} (h : LegalRecord cfg) : (resetFilter cfg).Fits cfg where
  length_eq := List.length_replicate
  cur_lt := h.k_range.1
  sum_eq := by simp [resetFilter]
  unseeded _ := ⟨rfl, rfl, rfl⟩

/-- A preset range has its bounds in order (R21, R28). -/
theorem resetCal_fits {cfg : CfgRecord} (hlegal : LegalRecord cfg) : (resetCal cfg).Fits cfg := by
  cases hinit : cfg.CAL_INIT with
  | UNSET =>
    rw [resetCal_of_unset hinit]
    exact { min_le_max := fun h => Bool.noConfusion h, unset_only := fun _ => ⟨hinit, rfl⟩, prev_zero := fun _ => rfl }
  | PRESET lo hi =>
    obtain ⟨hset, hlo, hhi⟩ := resetCal_preset_toNat hlegal hinit
    exact
      { min_le_max := fun _ => by rw [hlo, hhi]; exact (hlegal.preset_range lo hi hinit).1
        unset_only := fun h => Bool.noConfusion (h.symm.trans hset)
        prev_zero := fun _ => (resetCal_prev cfg).1 }

/-- An angle is reduced below 360 before it is pushed (R147). -/
theorem mappedAngle_toNat (r : Rounding) (c : CalRegs) (x : Sample) :
    (mappedAngle r c x).toNat = mapf r c x.toNat 0 360 % 360 :=
  Nat.mod_eq_of_lt ((Nat.mod_lt _ (by decide)).trans (by decide))

theorem State.tickAngle_lt (s : State) (raw : Sample) : (s.tickAngle raw).toNat < 360 := by
  rw [State.tickAngle, mappedAngle_toNat]
  exact Nat.mod_lt _ (by decide)

/-! ### Each operation keeps the invariant -/

section
variable {s : State} (h : s.Inv)
include h

theorem State.Inv.emit (output : Output) (conditions : List Condition) : (s.emit output conditions).Inv :=
  { h with }

theorem State.Inv.take : s.take.Inv := { h with }

theorem State.Inv.runFilter (raw : Sample) : (s.runFilter raw).Inv :=
  { h with flt := filterRegs_fits h.flt h.legalRecord.k_range.2 raw }

theorem State.Inv.runObserve (x : Sample) : (s.runObserve x).Inv := { h with cal := observeRegs_fits s.cfg s.cal x }

theorem State.Inv.runCalReset (x : Sample) : (s.runCalReset x).Inv := { h with cal := calResetRegs_fits s.cfg x }

theorem State.Inv.runVelPush {a : U9} (ha : a.toNat < 360) (t : Millis) : (s.runVelPush a t).Inv :=
  { h with hist := pushRegs_fits h.hist ha t }

theorem State.Inv.runVelClear : s.runVelClear.Inv := { h with hist := clearedHist_fits s.cfg }

theorem State.Inv.runGate (cand : Byte) (dth : Disp) (dt : Millis) : (s.runGate cand dth dt).Inv := { h with }

/-- Only Calibrate writes what the invariant reads (R194). -/
theorem State.Inv.applyAction (a : Action) : (s.applyAction a).Inv := by
  cases a with
  | CAL => exact (h.runCalReset s.flt.f_stable).runVelClear
  | _ => exact h

theorem State.Inv.runModeStep (level : Level) : (s.runModeStep level).Inv :=
  { h.applyAction (s.action level) with }

theorem State.Inv.runTick (raw : Sample) (level : Level) (now : Millis) : (s.runTick raw level now).Inv :=
  ((((h.runFilter raw).runObserve _).runVelPush (s.tickAngle_lt raw) now).runGate _ _ _).runModeStep level

end

/-- The registers are those of a reset, whatever they were before (R45). -/
theorem State.powerOnReset_inv {s : State} (hlegal : cfgLegal s.cfg = true) : s.powerOnReset.Inv where
  legal := hlegal
  flt := resetFilter_fits ((cfgLegal_iff_legalRecord s.cfg).mp hlegal)
  cal := resetCal_fits ((cfgLegal_iff_legalRecord s.cfg).mp hlegal)
  hist := clearedHist_fits s.cfg

theorem State.Inv.after {s : State} (h : s.Inv) {i : Instr} (hadmits : s.Admits i) : (s.after i).Inv := by
  obtain ⟨hwell, -⟩ := hadmits
  cases i with
  | tick raw level now g k => exact h.runTick raw level now
  | filter raw => exact h.runFilter raw
  | calObserve x => exact h.runObserve x
  | calMap v lo hi => exact h
  | calReset x => exact h.runCalReset x
  | velPush a t => exact h.runVelPush (of_decide_eq_true hwell) t
  | velClear => exact h.runVelClear
  | gateAccept cand dth dt => exact h.runGate cand dth dt
  | modeStep level => exact h.runModeStep level
  | buildReport level => exact h
  | configure r => exact State.powerOnReset_inv (s := { s with cfg := r, configured := true }) hwell
  | por => exact State.powerOnReset_inv h.legal

theorem State.Inv.exec {s t : State} (h : s.Inv) {i : Instr} (hexec : exec i s = .next t) : t.Inv := by
  obtain ⟨hadmits, rfl⟩ := exec_next_iff.mp hexec
  exact (h.after hadmits).emit _ _

/-- Settles O16: a step waits, or it is an operation on the state with the word taken. -/
theorem stepKeepsInvariant : Obligations.StepKeepsInvariant := by
  intro s t h hstep
  cases hin : s.inbox with
  | nil =>
    obtain rfl : s = t := by simpa [step_nil hin] using hstep
    exact h
  | cons c rest =>
    obtain ⟨i, -, hexec⟩ := step_next_cons hin hstep
    exact h.take.exec hexec

/-- Settles O15: before any CONFIGURE the registers are those of a reset with the record held. -/
theorem resetMeetsInvariant : Obligations.ResetMeetsInvariant :=
  State.powerOnReset_inv (s := State.reset) (by decide)

/-- R25's sum, slot by slot. -/
theorem sum_range_getD (l : List Sample) :
    ((List.range l.length).map fun j => (l.getD j 0).toNat).sum = (l.map BitVec.toNat).sum := by
  congr 1
  refine List.ext_getElem (by simp) fun j hj _ => ?_
  have hlt : j < l.length := by simpa using hj
  simp [hlt]

/-- Settles O17: the invariant after the operation; K is at most 255 and a sample at most 4095. -/
theorem runningSumIsWindowSum : Obligations.RunningSumIsWindowSum := by
  intro i s t h hexec
  have ht : t.Inv := h.exec hexec
  have hK : t.cfg.K ≤ 255 := ht.legalRecord.k_range.2
  have hsum := ht.flt.sum_le
  refine ⟨?_, by omega⟩
  rw [← ht.flt.length_eq, sum_range_getD]
  exact ht.flt.sum_eq

end Sys2Proof.Machine
end

section
/-! R110 to R114: FILTER's window, cursor, sum and output after the first sample and after a later one
(spec/40_sample_filter.md). -/

namespace Sys2Proof.Machine

/-! ### The window after one sample -/

section
variable {cfg : CfgRecord} {f : FilterRegs} (raw : Sample)

theorem filterRegs_f_buf_prefill (hs : f.f_seeded = false) (hw : cfg.WARMUP = .PREFILL) :
    (filterRegs cfg f raw).f_buf = List.replicate cfg.K raw := by
  rw [filterRegs_f_buf, filterWindow_prefill hs hw]

theorem filterRegs_f_cur_prefill (hs : f.f_seeded = false) (hw : cfg.WARMUP = .PREFILL) :
    (filterRegs cfg f raw).f_cur = 0 := by
  rw [filterRegs_f_cur, filterWindow_prefill hs hw]

variable (h : ¬ (f.f_seeded = false ∧ cfg.WARMUP = .PREFILL))
include h

theorem filterRegs_f_buf_replace : (filterRegs cfg f raw).f_buf = f.f_buf.set f.f_cur.toNat raw := by
  rw [filterRegs_f_buf, filterWindow_replace h]

/-- The cursor stays below K, so it fits its byte (R24). -/
theorem filterRegs_f_cur_replace (hlegal : LegalRecord cfg) :
    (filterRegs cfg f raw).f_cur.toNat = (f.f_cur.toNat + 1) % cfg.K := by
  obtain ⟨hpos, hK⟩ := hlegal.k_range
  have hlt : (f.f_cur.toNat + 1) % cfg.K < cfg.K := Nat.mod_lt _ hpos
  rw [filterRegs_f_cur, filterWindow_replace h]
  exact Nat.mod_eq_of_lt (by omega)

/-- R111's sum: it loses the evicted sample and gains the new one. -/
theorem filterRegs_f_sum_replace (hlegal : LegalRecord cfg) (hfit : f.Fits cfg) :
    (filterRegs cfg f raw).f_sum.toNat + (f.f_buf.getD f.f_cur.toNat 0).toNat = f.f_sum.toNat + raw.toNat := by
  rw [(filterRegs_fits hfit hlegal.k_range.2 raw).sum_eq, hfit.sum_eq, filterRegs_f_buf_replace raw h]
  exact sum_map_toNat_set_add f.f_buf (hfit.length_eq ▸ hfit.cur_lt) raw

end

/-! ### The first sample -/

section
variable {cfg : CfgRecord} (hlegal : LegalRecord cfg) {f : FilterRegs} (hfit : f.Fits cfg) (raw : Sample)
include hlegal hfit

/-- The average that FILTER divides out of the sum it leaves (R111). -/
theorem stage1_filterRegs_toNat :
    (stage1 cfg (filterRegs cfg f raw)).toNat = (filterRegs cfg f raw).f_sum.toNat / cfg.K :=
  (filterRegs_fits hfit hlegal.k_range.2 raw).stage1_toNat

variable (hs : f.f_seeded = false)
include hs

/-- R113: the first output is the average itself. -/
theorem filterRegs_f_stable_first :
    (filterRegs cfg f raw).f_stable.toNat = (filterRegs cfg f raw).f_sum.toNat / cfg.K := by
  rw [filterRegs_f_stable, hs, nextStable_unseeded, stage1_filterRegs_toNat hlegal hfit]

theorem filterRegs_f_sum_prefill (hw : cfg.WARMUP = .PREFILL) :
    (filterRegs cfg f raw).f_sum.toNat = cfg.K * raw.toNat := by
  rw [(filterRegs_fits hfit hlegal.k_range.2 raw).sum_eq, filterRegs_f_buf_prefill raw hs hw, List.map_replicate,
    List.sum_replicate, smul_eq_mul]

theorem filterRegs_f_stable_prefill (hw : cfg.WARMUP = .PREFILL) : (filterRegs cfg f raw).f_stable = raw := by
  apply BitVec.eq_of_toNat_eq
  rw [filterRegs_f_stable_first hlegal hfit raw hs, filterRegs_f_sum_prefill hlegal hfit raw hs hw,
    Nat.mul_div_cancel_left _ hlegal.k_range.1]

variable (hw : cfg.WARMUP = .ZEROFILL)
include hw

theorem filterRegs_f_buf_zerofill : (filterRegs cfg f raw).f_buf = raw :: List.replicate (cfg.K - 1) 0 := by
  obtain ⟨hbuf, hcur, -⟩ := hfit.unseeded hs
  obtain ⟨k, hk⟩ := Nat.exists_eq_add_of_le' hlegal.k_range.1
  rw [filterRegs_f_buf_replace raw (by simp [hw]), hbuf, hcur, hk]
  rfl

theorem filterRegs_f_sum_zerofill : (filterRegs cfg f raw).f_sum.toNat = raw.toNat := by
  rw [(filterRegs_fits hfit hlegal.k_range.2 raw).sum_eq, filterRegs_f_buf_zerofill hlegal hfit raw hs hw]
  simp

theorem filterRegs_f_stable_zerofill : (filterRegs cfg f raw).f_stable.toNat = raw.toNat / cfg.K := by
  rw [filterRegs_f_stable_first hlegal hfit raw hs, filterRegs_f_sum_zerofill hlegal hfit raw hs hw]

end

/-- Settles O20: the registers of the first sample, by the warm-up. -/
theorem firstFilterFillsTheWindow : Obligations.FirstFilterFillsTheWindow := by
  intro s raw hinv hc hs
  have hlegal : LegalRecord s.cfg := hinv.legalRecord
  refine ⟨_, exec_filter hc raw, (s.runFilter raw).answered_emit _ _, fun hw => ?prefill, fun hw => ?zerofill, rfl,
    rfl, rfl, rfl, rfl⟩
  case prefill =>
    exact ⟨filterRegs_f_buf_prefill raw hs hw, filterRegs_f_sum_prefill hlegal hinv.flt raw hs hw,
      filterRegs_f_cur_prefill raw hs hw, filterRegs_f_stable_prefill hlegal hinv.flt raw hs hw⟩
  case zerofill =>
    obtain ⟨-, hcur, -⟩ := hinv.flt.unseeded hs
    refine ⟨filterRegs_f_buf_zerofill hlegal hinv.flt raw hs hw, filterRegs_f_sum_zerofill hlegal hinv.flt raw hs hw,
      ?_, filterRegs_f_stable_zerofill hlegal hinv.flt raw hs hw⟩
    have hnext := filterRegs_f_cur_replace (f := s.flt) raw (by simp [hw]) hlegal
    rw [hcur] at hnext
    exact hnext

/-- Settles O21: a seeded filter takes the sample at the cursor, whatever the warm-up. -/
theorem filterReplacesOldestSample : Obligations.FilterReplacesOldestSample := by
  intro s raw hinv hc hs
  have hseeded : ¬ (s.flt.f_seeded = false ∧ s.cfg.WARMUP = .PREFILL) := by simp [hs]
  refine ⟨_, exec_filter hc raw, (s.runFilter raw).answered_emit _ _, fun j hj => ?slot,
    filterRegs_f_sum_replace raw hseeded hinv.legalRecord hinv.flt,
    filterRegs_f_cur_replace raw hseeded hinv.legalRecord, rfl, rfl, rfl, rfl, rfl⟩
  have hlt : j < s.flt.f_buf.length := hinv.flt.length_eq ▸ hj
  rw [State.emit_flt, State.runFilter_flt, filterRegs_f_buf_replace raw hseeded]
  simp [List.getElem_set, hlt, @eq_comm _ j]

/-- R114: with one stage every output is the average. -/
theorem nextStable_of_maOnly {cfg : CfgRecord} (h : cfg.STAGES = .MA_ONLY) (seeded : Bool) (stable new : Sample) :
    nextStable cfg seeded stable new = new := by
  simp [nextStable, h]

/-- Settles O22: with MA_ONLY the output is `stage1`, and it loses nothing. -/
theorem filterMaOnlyFollowsAverage : Obligations.FilterMaOnlyFollowsAverage := by
  intro s raw hinv hc hstages
  refine ⟨_, exec_filter hc raw, ?_⟩
  rw [State.emit_flt, State.runFilter_flt, filterRegs_f_stable, nextStable_of_maOnly hstages]
  exact stage1_filterRegs_toNat hinv.legalRecord hinv.flt raw

end Sys2Proof.Machine
end

section
/-! R130, R131, R135, R145: what CAL_OBSERVE and CAL_RESET leave in the calibrator (spec/41_range_calibrator.md). -/

namespace Sys2Proof.Machine

/-- R131: on an unset range the sample becomes both bounds. -/
theorem widen_of_unset {c : CalRegs} (hset : c.c_set = false) (x : Sample) :
    widen c x = { c with c_min := x, c_max := x, c_set := true } := by
  simp [widen, hset]

/-- R131 for a range that is set. -/
theorem widen_of_set_toNat {c : CalRegs} (hset : c.c_set = true) (x : Sample) :
    (widen c x).c_min.toNat = min c.c_min.toNat x.toNat ∧ (widen c x).c_max.toNat = max c.c_max.toNat x.toNat := by
  rw [widen_of_set hset (sampleMin_toNat c.c_min x) (sampleMax_toNat c.c_max x)]
  exact ⟨sampleMin_toNat _ _, sampleMax_toNat _ _⟩

/-- Where the wrap test does not run, the bounds only widen (R130). -/
theorem observedBounds_of_not_wrapTested {cfg : CfgRecord} {c : CalRegs}
    (h : cfg.CAL_POLICY = .EXPANDING ∨ c.c_prev_valid = false) (x : Sample) : observedBounds cfg c x = widen c x := by
  obtain h | h := h <;> simp [observedBounds, wrapTested, h]

section
variable {cfg : CfgRecord} {c : CalRegs} (h : cfg.CAL_POLICY = .EXPANDING ∨ c.c_prev_valid = false) (x : Sample)
include h

theorem observeRegs_of_unset (hset : c.c_set = false) :
    (observeRegs cfg c x).c_min = x ∧ (observeRegs cfg c x).c_max = x := by
  rw [observeRegs_c_min, observeRegs_c_max, observedBounds_of_not_wrapTested h, widen_of_unset hset]
  exact ⟨rfl, rfl⟩

theorem observeRegs_of_set (hset : c.c_set = true) :
    (observeRegs cfg c x).c_min.toNat = min c.c_min.toNat x.toNat
      ∧ (observeRegs cfg c x).c_max.toNat = max c.c_max.toNat x.toNat := by
  rw [observeRegs_c_min, observeRegs_c_max, observedBounds_of_not_wrapTested h]
  exact widen_of_set_toNat hset x

end

/-- Settles O24: the expanding policy runs no wrap test. -/
theorem calObserveExpandsBounds : Obligations.CalObserveExpandsBounds := by
  intro s x hc hpolicy
  obtain ⟨hset, -, -⟩ := observeRegs_holds s.cfg s.cal x
  exact ⟨_, _, exec_calObserve hc x, (s.runObserve x).answered_emit _ _, hset,
    observeRegs_of_unset (.inl hpolicy) x, observeRegs_of_set (.inl hpolicy) x, rfl, rfl, rfl, rfl⟩

/-- Settles O27: byte and answer are the same map (R135), which fits both; an unset range has no valid previous byte. -/
theorem calObserveRecordsMappedByte : Obligations.CalObserveRecordsMappedByte := by
  intro s x hinv hc
  have hord : (observeRegs s.cfg s.cal x).c_set = true → _ := (observeRegs_fits s.cfg s.cal x).min_le_max
  have hrange : (0 : U9).toNat ≤ (255 : U9).toNat := by decide
  refine ⟨_, _, _, _, exec_calObserve hc x, exec_calMap (s := (s.runObserve x).emit _ _) hc x hrange,
    State.answered_emit _ _ _, ?byte, rfl, fun hvalid hset => observeRegs_of_set (.inr hvalid) x hset,
    fun hset => observeRegs_of_unset (.inr (hinv.cal.unset_only hset).2) x hset, rfl, rfl, rfl, rfl⟩
  exact (mappedByte_toNat hord s.cfg.ROUNDING x).trans (toNat_ofNat_mapf hord s.cfg.ROUNDING x.toNat hrange).symm

/-- Settles O30: after CAL_RESET the bounds are equal, so every map answers its lower output end. -/
theorem calResetSetsRange : Obligations.CalResetSetsRange := by
  intro s x hc
  refine ⟨_, exec_calReset hc x, (s.runCalReset x).answered_emit _ _, rfl, rfl, rfl, rfl, rfl, rfl, rfl, rfl, rfl,
    fun v lo hi hle => ?_⟩
  have hd : degenRange (calResetRegs x) = true := degenRange_eq_true_iff.mpr (.inr rfl)
  refine ⟨_, exec_calMap (s := (s.runCalReset x).emit _ _) hc v hle, State.sameBlock_emit _ _ _, ?_⟩
  rw [State.emit_cal, State.runCalReset_cal, mapf_of_degen hd, hd, BitVec.ofNat_toNat, BitVec.setWidth_eq]
  exact State.answered_emit _ _ _

end Sys2Proof.Machine
end

section
/-! R144: the laws of the map. Either rounding divides one scaled value by the span, monotonically and exactly at the
multiples of the span (spec/41_range_calibrator.md R140 to R144). -/

namespace Sys2Proof.Machine

/-- The quotient by either rounding of R141 and R142. -/
def roundedDiv : Rounding → Nat → Nat → Nat
  | .TRUNC, n, d => n / d
  | .HALF_AWAY, n, d => (2 * n + d) / (2 * d)

theorem roundedDiv_mono (r : Rounding) {n m : Nat} (h : n ≤ m) (d : Nat) : roundedDiv r n d ≤ roundedDiv r m d := by
  cases r with
  | TRUNC => exact Nat.div_le_div_right h
  | HALF_AWAY => exact Nat.div_le_div_right (by omega)

theorem roundedDiv_mul_right (r : Rounding) (k : Nat) {d : Nat} (hd : 0 < d) : roundedDiv r (k * d) d = k := by
  cases r with
  | TRUNC => exact Nat.mul_div_cancel k hd
  | HALF_AWAY =>
    have hsum : 2 * (k * d) + d = d + k * (2 * d) := by ring
    rw [roundedDiv, hsum, Nat.add_mul_div_right _ _ (by omega), Nat.div_eq_of_lt (by omega), Nat.zero_add]

theorem roundedDiv_trunc_le_halfAway (n d : Nat) : roundedDiv .TRUNC n d ≤ roundedDiv .HALF_AWAY n d := by
  rw [roundedDiv, roundedDiv, ← Nat.mul_div_mul_left n d (by omega : 0 < 2)]
  exact Nat.div_le_div_right (Nat.le_add_right _ _)

theorem roundedDiv_halfAway_le_trunc_succ (n : Nat) {d : Nat} (hd : 0 < d) :
    roundedDiv .HALF_AWAY n d ≤ roundedDiv .TRUNC n d + 1 := by
  rw [roundedDiv, roundedDiv, ← Nat.add_div_right n hd, ← Nat.mul_div_mul_left (n + d) d (by omega : 0 < 2)]
  exact Nat.div_le_div_right (by omega)

section
variable {c : CalRegs} (hd : degenRange c = false) (hord : c.c_set = true → c.c_min.toNat ≤ c.c_max.toNat)

include hd in
/-- R142's exact value, of the clamped sample. -/
theorem mapf_eq_roundedDiv (hlt : c.c_min.toNat < c.c_max.toNat) (r : Rounding) (v lo hi : Nat) :
    mapf r c v lo hi =
      roundedDiv r (scaled (clamp v c.c_min.toNat c.c_max.toNat) c.c_min.toNat (c.c_max.toNat - c.c_min.toNat) lo hi)
        (c.c_max.toNat - c.c_min.toNat) := by
  cases r with
  | TRUNC => rw [mapf_trunc hd, roundedDiv, scaled, Nat.add_mul_div_right _ _ (by omega), Nat.add_comm]
  | HALF_AWAY => exact mapf_halfAway hd v lo hi

include hd hord in
theorem c_min_lt_c_max_of_not_degen : c.c_min.toNat < c.c_max.toNat := by
  obtain ⟨hset, hne⟩ := degenRange_eq_false_iff.mp hd
  exact (hord hset).lt_of_ne (hne ∘ BitVec.eq_of_toNat_eq)

end

theorem scaled_mono {vc wc : Nat} (h : vc ≤ wc) (c_min span lo hi : Nat) :
    scaled vc c_min span lo hi ≤ scaled wc c_min span lo hi :=
  Nat.add_le_add_right (Nat.mul_le_mul_right _ (Nat.sub_le_sub_right h _)) _

theorem scaled_min (c_min span lo hi : Nat) : scaled c_min c_min span lo hi = lo * span := by
  simp [scaled]

theorem scaled_max (c_min c_max : Nat) {lo hi : Nat} (hlo : lo ≤ hi) :
    scaled c_max c_min (c_max - c_min) lo hi = hi * (c_max - c_min) := by
  rw [scaled, mul_comm lo, ← mul_add, Nat.sub_add_cancel hlo, mul_comm]

theorem clamp_mono {v w : Nat} (h : v ≤ w) (lo hi : Nat) : clamp v lo hi ≤ clamp w lo hi := by
  unfold clamp
  omega

theorem clamp_eq_self {v lo hi : Nat} (hlo : lo ≤ v) (hhi : v ≤ hi) : clamp v lo hi = v := by
  unfold clamp
  omega

section
variable {c : CalRegs} {lo hi : Nat}

theorem mapf_c_min (hset : c.c_set = true) (hlt : c.c_min.toNat < c.c_max.toNat) (r : Rounding) :
    mapf r c c.c_min.toNat lo hi = lo := by
  have hd : degenRange c = false := degenRange_eq_false_iff.mpr ⟨hset, fun h => hlt.ne (congrArg BitVec.toNat h)⟩
  rw [mapf_eq_roundedDiv hd hlt, clamp_eq_self le_rfl hlt.le, scaled_min, roundedDiv_mul_right r lo (by omega)]

theorem mapf_c_max (hlo : lo ≤ hi) (hset : c.c_set = true) (hlt : c.c_min.toNat < c.c_max.toNat) (r : Rounding) :
    mapf r c c.c_max.toNat lo hi = hi := by
  have hd : degenRange c = false := degenRange_eq_false_iff.mpr ⟨hset, fun h => hlt.ne (congrArg BitVec.toNat h)⟩
  rw [mapf_eq_roundedDiv hd hlt, clamp_eq_self hlt.le le_rfl, scaled_max _ _ hlo, roundedDiv_mul_right r hi (by omega)]

variable (hord : c.c_set = true → c.c_min.toNat ≤ c.c_max.toNat)
include hord

theorem mapf_mono (r : Rounding) {v w : Nat} (h : v ≤ w) : mapf r c v lo hi ≤ mapf r c w lo hi := by
  cases hd : degenRange c
  case true => rw [mapf_of_degen hd, mapf_of_degen hd]
  case false =>
    have hlt := c_min_lt_c_max_of_not_degen hd hord
    rw [mapf_eq_roundedDiv hd hlt, mapf_eq_roundedDiv hd hlt]
    exact roundedDiv_mono r (scaled_mono (clamp_mono h _ _) _ _ _ _) _

/-- The clamped sample is not below `c_min`, which maps to `lo`. -/
theorem le_mapf (r : Rounding) (v : Nat) : lo ≤ mapf r c v lo hi := by
  cases hd : degenRange c
  case true => rw [mapf_of_degen hd]
  case false =>
    have hlt := c_min_lt_c_max_of_not_degen hd hord
    rw [mapf_eq_roundedDiv hd hlt]
    calc lo = roundedDiv r (lo * (c.c_max.toNat - c.c_min.toNat)) (c.c_max.toNat - c.c_min.toNat) :=
          (roundedDiv_mul_right r lo (by omega)).symm
      _ ≤ _ := roundedDiv_mono r (Nat.le_add_left _ _) _

theorem mapf_halfAway_between (v : Nat) :
    mapf .TRUNC c v lo hi ≤ mapf .HALF_AWAY c v lo hi
      ∧ mapf .HALF_AWAY c v lo hi ≤ mapf .TRUNC c v lo hi + 1 := by
  cases hd : degenRange c
  case true =>
    rw [mapf_of_degen hd, mapf_of_degen hd]
    exact ⟨le_rfl, Nat.le_succ lo⟩
  case false =>
    have hlt := c_min_lt_c_max_of_not_degen hd hord
    rw [mapf_eq_roundedDiv hd hlt, mapf_eq_roundedDiv hd hlt]
    exact ⟨roundedDiv_trunc_le_halfAway _ _, roundedDiv_halfAway_le_trunc_succ _ (by omega)⟩

end

/-- Settles O29: each law is one of `roundedDiv`'s, on the scaled value. -/
theorem mapfLaws : Obligations.MapfLaws := fun _ _ _ hlo hord =>
  ⟨fun r v => ⟨le_mapf hord r v, mapf_le hord r v hlo⟩,
    fun r hset hlt => ⟨mapf_c_min hset hlt r, mapf_c_max hlo hset hlt r⟩,
    fun r _ _ h => mapf_mono hord r h, fun v => mapf_halfAway_between hord v⟩

end Sys2Proof.Machine
end

section
/-! R166, R167: the cleared history, and the laws of the displacement (spec/42_velocity_estimator.md). -/

namespace Sys2Proof.Machine

/-- Settles O34: `clearedHist` is N zeros twice. -/
theorem velClearZeroesHistory : Obligations.VelClearZeroesHistory := fun s _ hc =>
  ⟨_, exec_velClear hc, s.runVelClear.answered_emit _ _, List.length_replicate, List.length_replicate,
    fun _ ha => List.eq_of_mem_replicate ha, fun _ hb => List.eq_of_mem_replicate hb, rfl, rfl, rfl, rfl⟩

/-- R167: equal angles have no step between them. -/
theorem netDisp_of_constant {a : U9} : ∀ {angles : List U9}, (∀ b ∈ angles, b = a) → netDisp angles = 0
  | [], _ => rfl
  | [_], _ => rfl
  | b :: c :: rest, h => by
    have hb : b = a := h b (by simp)
    have hc : c = a := h c (by simp)
    rw [netDisp_cons_cons, netDisp_of_constant fun d hd => h d (List.mem_cons_of_mem b hd)]
    simp [angleStep, hb, hc, wrapStep]

theorem wrapStep_of_abs_le {d : Int} (h : |d| ≤ 180) : wrapStep d = d := by
  obtain ⟨hlo, hhi⟩ := abs_le.mp h
  rw [wrapStep, if_neg (by omega), if_neg (by omega)]

/-- The steps between adjacent pairs telescope to newest minus oldest (R167). -/
theorem sum_angleStep (angles : List U9) (n : Nat) :
    ((List.range n).map (angleStep angles)).sum = ((angles.getD 0 0).toNat : Int) - (angles.getD n 0).toNat :=
  Finset.sum_range_sub' (fun i => ((angles.getD i 0).toNat : Int)) n

/-- R167: without a correction the displacement is newest minus oldest. -/
theorem netDisp_of_uncorrected {angles : List U9} (h : ∀ i < angles.length - 1, |angleStep angles i| ≤ 180) :
    netDisp angles = ((angles.getD 0 0).toNat : Int) - (angles.getD (angles.length - 1) 0).toNat := by
  rw [netDisp_eq_sum, ← sum_angleStep]
  congr 1
  exact List.map_congr_left fun i hi => wrapStep_of_abs_le (h i (List.mem_range.mp hi))

/-- A push onto a cleared history (R161, R166). -/
theorem shiftIn_replicate {α : Type} {n : Nat} (hn : 0 < n) (x y : α) :
    shiftIn n x (List.replicate n y) = x :: List.replicate (n - 1) y := by
  obtain ⟨m, rfl⟩ := Nat.exists_eq_succ_of_ne_zero hn.ne'
  simp [shiftIn, List.take_replicate]

theorem netDisp_cons_zeros (a : U9) {n : Nat} (hn : 0 < n) : netDisp (a :: List.replicate n 0) = wrapStep a.toNat := by
  obtain ⟨m, rfl⟩ := Nat.exists_eq_succ_of_ne_zero hn.ne'
  rw [List.replicate_succ, netDisp_cons_cons, ← List.replicate_succ,
    netDisp_of_constant fun _ hb => List.eq_of_mem_replicate hb]
  simp [angleStep]

/-- An angle is not below -180, so only the correction downward applies. -/
theorem wrapStep_natCast (n : Nat) : wrapStep n = if 180 < n then (n : Int) - 360 else n := by
  unfold wrapStep
  split_ifs <;> omega

theorem elapsed_pushRegs {cfg : CfgRecord} (hN : 2 ≤ cfg.N) (h : HistRegs) (a : U9) (t : Millis) :
    elapsed cfg (pushRegs cfg h a t) = t - h.h_ts.getD (cfg.N - 2) 0 := by
  obtain ⟨m, hm⟩ := Nat.exists_eq_add_of_le' hN
  have hlast : cfg.N - 1 = m + 1 := by omega
  have holdest : cfg.N - 2 = m := by omega
  rw [elapsed, pushRegs, shiftIn_getD_zero (by omega), hlast, shiftIn_getD_succ (by omega), holdest]

/-- N pairs of zeros are the cleared history (R166). -/
theorem HistRegs.Fits.eq_clearedHist {h : HistRegs} {cfg : CfgRecord} (hfit : h.Fits cfg)
    (hangle : ∀ b ∈ h.h_angle, b = 0) (hts : ∀ b ∈ h.h_ts, b = 0) : h = clearedHist cfg := by
  obtain ⟨angles, ts⟩ := h
  rw [clearedHist, HistRegs.mk.injEq]
  exact ⟨List.eq_replicate_iff.mpr ⟨hfit.angle_length, hangle⟩, List.eq_replicate_iff.mpr ⟨hfit.ts_length, hts⟩⟩

theorem elapsed_pushRegs_cleared {cfg : CfgRecord} (hN : 2 ≤ cfg.N) (a : U9) (t : Millis) :
    elapsed cfg (pushRegs cfg (clearedHist cfg) a t) = t := by
  rw [elapsed_pushRegs hN, clearedHist, List.getD_replicate _ (by omega)]
  exact BitVec.sub_zero t

/-- Settles O33: the displacement of the pushed history is its `netDisp`, for which each law is a lemma. -/
theorem velocityLaws : Obligations.VelocityLaws := by
  intro s a t hinv hc ha
  obtain ⟨hN, hN'⟩ := hinv.legalRecord.n_range
  have hfit : (pushRegs s.cfg s.hist a t).Fits s.cfg := pushRegs_fits hinv.hist ha t
  have hdth : (s.runVelPush a t).dth.toInt = netDisp (pushRegs s.cfg s.hist a t).h_angle :=
    hfit.displacement_toInt hN'
  have hnewest : (pushRegs s.cfg s.hist a t).h_angle.getD 0 0 = a := shiftIn_getD_zero (by omega) a _ 0
  refine ⟨_, _, _, _, exec_velPush hc ha t, s.answered_velPush a t _, fun hconst => ?constant,
    fun hsteps => ?telescopes, ?bounded, by omega, fun hangle hts => ?cleared⟩
  case constant =>
    apply BitVec.eq_of_toInt_eq
    rw [hdth]
    exact netDisp_of_constant hconst
  case telescopes =>
    rw [hdth]
    rw [← hfit.angle_length] at hsteps
    rw [netDisp_of_uncorrected hsteps, hnewest, hfit.angle_length]
    rfl
  case bounded =>
    have hle := abs_netDisp_le hfit.angle_lt
    rw [hfit.angle_length] at hle
    rw [hdth]
    exact hle.trans (by omega)
  case cleared =>
    have hhist : s.hist = clearedHist s.cfg := hinv.hist.eq_clearedHist hangle hts
    refine ⟨?_, ?_⟩
    · rw [State.dt, State.runVelPush_hist, State.runVelPush_cfg, hhist, elapsed_pushRegs_cleared hN]
    · rw [hdth, hhist, pushRegs, clearedHist, shiftIn_replicate (by omega), netDisp_cons_zeros a (by omega),
        wrapStep_natCast]

end Sys2Proof.Machine
end

section
/-! R197: a run of MODE_STEPs. The latch and the trace after one word decide those after any number of them
(spec/44_mode_controller.md). -/

namespace Sys2Proof.Machine

/-- A word that encodes an admitted operation performs it, with no word left in the inbox (R68, R92). -/
theorem Run.issue_encode {r : Run} {i : Instr} (h : r.state.Admits i) :
    r.issue (encode i) = { r with state := (r.state.hosted [] r.state.trace).done i } := by
  apply Run.issue_of_next
  rw [step_cons rfl, decodeInvertsEncode i]
  exact exec_eq_done (s := r.state.hosted [] r.state.trace) h

/-- An unmarked run on a configured block with this record and this latch. -/
structure Run.Latched (r : Run) (cfg : CfgRecord) (latch : Bool) : Prop where
  mark : r.mark = none
  configured : r.state.configured = true
  cfg_eq : r.state.cfg = cfg
  latch_eq : r.state.mode.m_latch = latch

section
variable {r : Run} {cfg : CfgRecord} {latch : Bool} (h : r.Latched cfg latch) (level : Level)
include h

theorem Run.Latched.issue_modeStep :
    (r.issue (encode (.modeStep level))).Latched cfg (anyChord (chordsOf cfg level)) := by
  rw [Run.issue_encode ⟨rfl, .inl h.configured⟩]
  constructor
  case mark => exact h.mark
  case configured => exact ((r.state.hosted [] r.state.trace).runModeStep_configured level).trans h.configured
  case cfg_eq => exact ((r.state.hosted [] r.state.trace).runModeStep_cfg level).trans h.cfg_eq
  case latch_eq => rw [← h.cfg_eq]; exact nextLatch_eq_anyChord _ _

theorem Run.Latched.issue_modeStep_trace :
    (r.issue (encode (.modeStep level))).state.trace =
      r.state.trace ++ [⟨.modeStep (modeAction (chordsOf cfg level) latch), []⟩] := by
  rw [Run.issue_encode ⟨rfl, .inl h.configured⟩, ← h.cfg_eq, ← h.latch_eq]
  exact congrArg (· ++ _) ((r.state.hosted [] r.state.trace).runModeStep_trace level)

end

/-- R195: under a set latch a held chord fires nothing, for any number of steps. -/
theorem Run.Latched.issueAll_held {cfg : CfgRecord} {level : Level} (hheld : anyChord (chordsOf cfg level) = true)
    (n : Nat) : ∀ {r : Run}, r.Latched cfg true →
      (r.issueAll (List.replicate n (encode (.modeStep level)))).Latched cfg true
        ∧ (r.issueAll (List.replicate n (encode (.modeStep level)))).state.trace =
            r.state.trace ++ List.replicate n ⟨.modeStep .NONE, []⟩ := by
  induction n with
  | zero => exact fun h => ⟨h, (List.append_nil _).symm⟩
  | succ n ih =>
    intro r h
    have hnext := h.issue_modeStep level
    rw [hheld] at hnext
    obtain ⟨hlatched, htrace⟩ := ih hnext
    refine ⟨hlatched, htrace.trans ?_⟩
    rw [h.issue_modeStep_trace level, modeAction_of_set, List.append_assoc]
    rfl

/-- From a clear latch a held chord fires its action once, in the first step (R197). -/
theorem Run.Latched.issueAll_press {cfg : CfgRecord} {level : Level} (hheld : anyChord (chordsOf cfg level) = true)
    (n : Nat) {r : Run} (h : r.Latched cfg false) :
    (r.issueAll (List.replicate (n + 1) (encode (.modeStep level)))).Latched cfg true
      ∧ (r.issueAll (List.replicate (n + 1) (encode (.modeStep level)))).state.trace =
          r.state.trace ++ ⟨.modeStep (modeAction (chordsOf cfg level) false), []⟩
            :: List.replicate n ⟨.modeStep .NONE, []⟩ := by
  have hnext := h.issue_modeStep level
  rw [hheld] at hnext
  obtain ⟨hlatched, htrace⟩ := Run.Latched.issueAll_held hheld n hnext
  refine ⟨hlatched, htrace.trans ?_⟩
  rw [h.issue_modeStep_trace level, List.append_assoc]
  rfl

/-- Settles O38: press, release and press again, by the latch that each leaves. -/
theorem heldChordFiresOnce : Obligations.HeldChordFiresOnce := by
  intro s level released n m hinv hc hclear hpressed hreleased
  have hlegal : LegalRecord s.cfg := hinv.legalRecord
  have hheld : anyChord (chordsOf s.cfg level) = true := (anyChord_chordsOf_iff hlegal level).mpr hpressed
  have hnone : anyChord (chordsOf s.cfg released) = false :=
    Bool.eq_false_iff.mpr (hreleased ∘ (anyChord_chordsOf_iff hlegal released).mp)
  have hfires : modeAction (chordsOf s.cfg level) false ≠ .NONE := (modeAction_ne_NONE_iff _ _).mpr ⟨hheld, rfl⟩
  have hstart : (Run.start s).Latched s.cfg false := ⟨rfl, hc, rfl, hclear⟩
  obtain ⟨hpress, htrace⟩ := Run.Latched.issueAll_press hheld n hstart
  have hrelease := hpress.issue_modeStep released
  rw [hnone] at hrelease
  obtain ⟨-, htrace'⟩ := Run.Latched.issueAll_press hheld m hrelease
  refine ⟨modeAction (chordsOf s.cfg level) false, modeAction (chordsOf s.cfg level) false, hfires, hfires, hpress.mark,
    htrace, ?_⟩
  rw [Run.issueAll_append, Run.issueAll_cons, htrace', hpress.issue_modeStep_trace released, modeAction_of_set, htrace,
    List.append_assoc _ [_]]
  rfl

end Sys2Proof.Machine
end

section
/-! R230, R231: a TICK is its components. Each component's writes commute with the events the others trace, so the
operations issued one by one pass through the stages of `runTick` (spec/46_tick_and_control.md). -/

namespace Sys2Proof.Machine

/-! ### A component issued with other words and other events around it -/

/-- An admitted operation, on its registers with any inbox and trace. -/
theorem exec_hosted {s : State} {i : Instr} (h : s.Admits i) (inbox : List Command) (trace : List Event) :
    exec i (s.hosted inbox trace) = .next ((s.after i).hosted inbox (trace ++ [s.eventOf i])) := by
  rw [exec_eq_done (s := s.hosted inbox trace) h, State.done_hosted]
  rfl

theorem State.answered_hosted {s t : State} (hcfg : t.cfg = s.cfg) (hconf : t.configured = s.configured)
    (inbox : List Command) (trace : List Event) (output : Output) (conditions : List Condition) :
    (s.hosted inbox trace).Answered (t.hosted inbox (trace ++ [⟨output, conditions⟩])) output conditions :=
  ⟨hcfg, hconf, rfl, rfl⟩

/-! ### The operands of the later components -/

section
variable (s : State) (raw : Sample)

/-- CAL_OBSERVE leaves its bounds in order. -/
theorem State.tickObserved_cal_fits : (s.tickObserved raw).cal.Fits s.cfg := observeRegs_fits s.cfg s.cal _

/-- The axis byte is CAL_MAP's answer to 0..255 (R230). -/
theorem State.ofNat_mapf_eq_tickByte :
    BitVec.ofNat 8 (BitVec.ofNat 9 (mapf s.cfg.ROUNDING (s.tickObserved raw).cal
      (s.runFilter raw).flt.f_stable.toNat (0 : U9).toNat (255 : U9).toNat)).toNat = s.tickByte raw := by
  rw [toNat_ofNat_mapf (s.tickObserved_cal_fits raw).min_le_max _ _ (by decide)]
  rfl

/-- The angle pushed is CAL_MAP's answer to 0..360, reduced (R147, R230). -/
theorem State.ofNat_mapf_eq_tickAngle :
    BitVec.ofNat 9 ((BitVec.ofNat 9 (mapf s.cfg.ROUNDING (s.tickObserved raw).cal
      (s.runFilter raw).flt.f_stable.toNat (0 : U9).toNat (360 : U9).toNat)).toNat % 360) = s.tickAngle raw := by
  rw [toNat_ofNat_mapf (s.tickObserved_cal_fits raw).min_le_max _ _ (by decide)]
  rfl

end

/-- VEL_PUSH of the tick's angle, issued on the observed range (R230). -/
theorem exec_velPush_tick {s : State} (hc : s.configured = true) {raw : Sample} {a : U9} (ha : a = s.tickAngle raw)
    (now : Millis) (inbox : List Command) (trace : List Event) :
    exec (.velPush a now) ((s.tickObserved raw).hosted inbox trace) = .next ((s.tickPushed raw now).hosted inbox
      (trace ++ [(s.tickObserved raw).eventOf (.velPush (s.tickAngle raw) now)])) := by
  subst ha
  have hwell : (Instr.velPush (s.tickAngle raw) now).wellFormed = true := decide_eq_true (s.tickAngle_lt raw)
  exact exec_hosted (s := s.tickObserved raw) ⟨hwell, .inl hc⟩ inbox trace

/-- GATE_ACCEPT of the tick's byte with the velocity just pushed (R230). -/
theorem exec_gateAccept_tick {s : State} (hc : s.configured = true) {raw : Sample} {m : Byte} (hm : m = s.tickByte raw)
    (now : Millis) (inbox : List Command) (trace : List Event) :
    exec (.gateAccept m (s.tickPushed raw now).dth (s.tickPushed raw now).dt)
        ((s.tickPushed raw now).hosted inbox trace) =
      .next ((s.tickGated raw now).hosted inbox (trace ++ [(s.tickPushed raw now).eventOf
        (.gateAccept (s.tickByte raw) (s.tickPushed raw now).dth (s.tickPushed raw now).dt)])) := by
  subst hm
  exact exec_hosted (s := s.tickPushed raw now) ⟨rfl, .inl hc⟩ inbox trace

/-- Settles O41: the components pass through the stages of `runTick`, whatever was traced so far. -/
theorem tickIsItsComponents : Obligations.TickIsItsComponents := by
  intro s raw level now rdy_gp rdy_kb _ hc
  have hc' : (s.runTick raw level now).configured = true := (s.runTick_configured raw level now).trans hc
  exact ⟨(s.runFilter raw).hosted s.inbox _, (s.tickObserved raw).hosted s.inbox _, _, _,
    (s.tickPushed raw now).hosted s.inbox _, (s.tickGated raw now).hosted s.inbox _,
    (s.runTick raw level now).hosted s.inbox _, _, _, _, _, _, _, _, _, _, _, _, _, _, _, _, _,
    exec_hosted ⟨rfl, .inl hc⟩ s.inbox s.trace,
    exec_hosted (s := s.runFilter raw) ⟨rfl, .inl hc⟩ s.inbox _,
    (List.append_assoc s.trace [_] [_]).symm,
    exec_hosted (s := s.tickObserved raw) ⟨rfl, .inl hc⟩ s.inbox _, State.answered_hosted rfl rfl _ _ _ _,
    exec_hosted (s := s.tickObserved raw) ⟨rfl, .inl hc⟩ s.inbox _, State.answered_hosted rfl rfl _ _ _ _,
    exec_velPush_tick hc (s.ofNat_mapf_eq_tickAngle raw) now s.inbox _, State.answered_hosted rfl rfl _ _ _ _,
    exec_gateAccept_tick hc (s.ofNat_mapf_eq_tickByte raw) now s.inbox _, State.answered_hosted rfl rfl _ _ _ _,
    exec_hosted (s := s.tickGated raw now) ⟨rfl, .inl hc⟩ s.inbox _,
    State.answered_hosted (State.runModeStep_cfg _ level) (State.runModeStep_configured _ level) _ _ _ _,
    exec_hosted (s := s.runTick raw level now) ⟨rfl, .inl hc'⟩ s.inbox _, State.answered_hosted rfl rfl _ _ _ _,
    exec_tick hc raw level now rdy_gp rdy_kb, ⟨rfl, rfl, rfl, rfl, rfl, rfl, rfl⟩, s.answered_tick raw level now _ _⟩

end Sys2Proof.Machine
end

section
/-! R231 to R234, R276: what a TICK leaves, field by field, and what its report shows of the mode, the calibration and
the gate (spec/46_tick_and_control.md, spec/70_reset_and_hazards.md). -/

namespace Sys2Proof.Machine

/-! ### The fields after a TICK -/

section
variable (s : State) (raw : Sample) (level : Level) (now : Millis)

theorem State.runTick_flt : (s.runTick raw level now).flt = filterRegs s.cfg s.flt raw :=
  (s.tickGated raw now).runModeStep_flt level

theorem State.runTick_g_axis : (s.runTick raw level now).g_axis = (s.tickGated raw now).g_axis :=
  (s.tickGated raw now).runModeStep_g_axis level

/-- The chords act on the mode before the tick (R231). -/
theorem State.runTick_mode : (s.runTick raw level now).mode =
    { m_mode := nextMode (s.action level) s.mode.m_mode
      m_latch := nextLatch (chordsOf s.cfg level) s.mode.m_latch } := rfl

theorem State.runTick_cal : (s.runTick raw level now).cal =
    if s.action level = .CAL then calResetRegs (s.runTick raw level now).flt.f_stable
    else (s.tickObserved raw).cal := by
  rw [State.runTick_flt]
  exact (s.tickGated raw now).runModeStep_cal level

theorem State.runTick_hist : (s.runTick raw level now).hist =
    if s.action level = .CAL then clearedHist s.cfg else pushRegs s.cfg s.hist (s.tickAngle raw) now :=
  (s.tickGated raw now).runModeStep_hist level

theorem State.report_runTick : (s.runTick raw level now).report level =
    { gp_bytes := gpBytes level (s.tickGated raw now).g_axis
      kb_bytes := kbBytes s.cfg (nextMode (s.action level) s.mode.m_mode) level } := by
  rw [State.report, State.runTick_g_axis, State.runTick_cfg, State.runTick_mode]

end

/-- A TICK on a configured block, its report by the registers it leaves. -/
theorem exec_tick_answered {s : State} (hc : s.configured = true) (raw : Sample) (level : Level) (now : Millis)
    (g k : Bool) :
    ∃ t, exec (.tick raw level now g k) s = .next t
      ∧ s.Answered t (.tick ⟨g, gpBytes level (s.tickGated raw now).g_axis, k,
          kbBytes s.cfg (nextMode (s.action level) s.mode.m_mode) level⟩) (s.tickConditions raw now)
      ∧ (s.runTick raw level now).SameBlock t := by
  refine ⟨_, exec_tick hc raw level now g k, ?_, State.sameBlock_emit _ _ _⟩
  have h := s.answered_tick raw level now (portsOf ((s.runTick raw level now).report level) g k)
    (s.tickConditions raw now)
  rw [State.report_runTick] at h ⊢
  exact h

/-- Settles O43: mode, latch and action are functions of the record, the mode registers and the level. -/
theorem buttonPathIgnoresAnalogPath : Obligations.ButtonPathIgnoresAnalogPath := by
  intro s s' raw raw' level now now' g k g' k' hc hc' hcfg hmode
  obtain ⟨t, hexec, hans, -, -, -, -, -, -, ht⟩ := exec_tick_answered hc raw level now g k
  obtain ⟨t', hexec', hans', -, -, -, -, -, -, ht'⟩ := exec_tick_answered hc' raw' level now' g' k'
  have haction : s'.action level = s.action level := by rw [State.action, State.action, hcfg, hmode]
  rw [haction, hcfg, hmode] at hans'
  refine ⟨t, t', _, _, _, _, _, _, _, hexec, hexec', ?_, hans, hans'⟩
  rw [ht, ht', State.runTick_mode, State.runTick_mode, haction, hcfg, hmode]

/-- The three buttons of a pressed chord are among the pressed ones (R21, R191). -/
theorem three_le_lowButtons_length {level : Level} {chord : List Nat} (h : IsChord chord)
    (hpressed : ChordPressed level chord) : 3 ≤ (lowButtons level).length := by
  obtain ⟨hlen, hnodup, hle⟩ := h
  have hsub : chord ⊆ lowButtons level := fun j hj =>
    List.mem_filter.mpr ⟨List.mem_range.mpr (Nat.lt_succ_of_le (hle j hj)), decide_eq_true (hpressed j hj)⟩
  exact hlen ▸ (hnodup.subperm hsub).length_le

/-- Settles O44: the report is built from the mode the chord leaves. -/
theorem modeSwitchShowsInSameTick : Obligations.ModeSwitchShowsInSameTick := by
  intro s raw level now g k hinv hc hclear
  have hlegal : LegalRecord s.cfg := hinv.legalRecord
  obtain ⟨t, hexec, hans, -, -, -, -, -, -, ht⟩ := exec_tick_answered hc raw level now g k
  refine ⟨t, _, _, _, hexec, hans, fun hgp => ?gamepad, fun hgp hkb => ?keyboard⟩
  case gamepad =>
    rw [ht, State.runTick_mode, State.action_of_gp hlegal hclear hgp]
    exact ⟨rfl, rfl⟩
  case keyboard =>
    rw [ht, State.runTick_mode, State.action_of_kb hlegal hclear hgp hkb]
    refine ⟨rfl, kbBytes_keyboard_slots level hlegal, ?_⟩
    have hthree := three_le_lowButtons_length hlegal.chords.2.1 hkb
    rw [nextMode, kbBytes_keyboard_nonzero_length level hlegal]
    omega

/-- Without a chord no action fires (R195). -/
theorem State.action_of_not_anyChord {s : State} (hlegal : LegalRecord s.cfg) {level : Level}
    (h : ¬ AnyChordPressed s.cfg level) : s.action level = .NONE :=
  not_not.mp fun hfires => h ((State.action_ne_NONE_iff hlegal).mp hfires).1

/-- Settles O45: the action of a level changes only what the gate has passed: range, history and mode. -/
theorem calibrateActsFromNextTick : Obligations.CalibrateActsFromNextTick := by
  intro s raw level quiet now g k hinv hc hclear hgp hkb hcal hquiet
  have hlegal : LegalRecord s.cfg := hinv.legalRecord
  have hfires : s.action level = .CAL := State.action_of_cal hlegal hclear hgp hkb hcal
  have hnone : s.action quiet = .NONE := State.action_of_not_anyChord hlegal hquiet
  obtain ⟨t, hexec, hans, -, -, hflt, hcalregs, hhist, haxis, -⟩ := exec_tick_answered hc raw level now g k
  obtain ⟨u, hexec', hans', -, -, hflt', -, hhist', haxis', -⟩ := exec_tick_answered hc raw quiet now g k
  rw [State.runTick_g_axis] at haxis haxis'
  rw [State.runTick_cal, if_pos hfires, ← hflt] at hcalregs
  rw [State.runTick_hist, if_pos hfires] at hhist
  rw [State.runTick_hist, hnone, if_neg (by decide)] at hhist'
  refine ⟨t, u, _, [_, _], [_, _], _, _, _, _, hexec, hexec', hans, hans', haxis, haxis', ?filter, ?min, ?max,
    ?forgotten, ?angles, ?times, ?newest⟩
  case filter => rw [hflt, hflt', State.runTick_flt, State.runTick_flt]
  case min =>
    rw [hcalregs]
    rfl
  case max =>
    rw [hcalregs]
    rfl
  case forgotten =>
    rw [hcalregs]
    rfl
  case angles =>
    rw [hhist]
    exact fun b hb => List.eq_of_mem_replicate hb
  case times =>
    rw [hhist]
    exact fun b hb => List.eq_of_mem_replicate hb
  case newest =>
    have hN : 0 < s.cfg.N := Nat.zero_lt_of_lt hlegal.n_range.1
    rw [hhist']
    exact shiftIn_getD_zero hN now _ 0

/-! ### The gate in a TICK -/

/-- Calibrate fires on the latch's edge, for want of a mode chord (R193, R195). -/
theorem modeAction_eq_CAL_iff (c : Chords) (latch : Bool) :
    modeAction c latch = .CAL ↔
      latch = false ∧ c.toGamepad = false ∧ c.toKeyboard = false ∧ c.toCalibrate = true := by
  obtain ⟨gp, kb, cal⟩ := c
  revert gp kb cal latch
  decide

theorem State.action_eq_CAL_iff {s : State} (hlegal : LegalRecord s.cfg) (level : Level) :
    s.action level = .CAL ↔ s.mode.m_latch = false ∧ ¬ ChordPressed level s.cfg.CHORD_GP
      ∧ ¬ ChordPressed level s.cfg.CHORD_KB ∧ ChordPressed level s.cfg.CHORD_CAL := by
  rw [State.action, modeAction_eq_CAL_iff, ← chordsOf_toGamepad_iff hlegal, ← chordsOf_toKeyboard_iff hlegal,
    ← chordsOf_toCalibrate_iff hlegal, Bool.not_eq_true, Bool.not_eq_true]

/-- The byte a tick maps is the one CAL_OBSERVE recorded (R135, R230). -/
theorem State.tickByte_eq_c_prev (s : State) (raw : Sample) : s.tickByte raw = (s.tickObserved raw).cal.c_prev := rfl

/-- Settles O47: a gate that is off passes the byte on, and without Calibrate the range keeps it. -/
theorem gateOffAxisFollowsMappedByte : Obligations.GateOffAxisFollowsMappedByte := by
  intro s raw level now g k hinv hc hoff hcal
  have hnot : s.action level ≠ .CAL := fun h => by
    obtain ⟨-, -, -, hpressed⟩ := (State.action_eq_CAL_iff hinv.legalRecord level).mp h
    exact hcal hpressed
  refine ⟨_, exec_tick hc raw level now g k, ?_⟩
  rw [State.emit_g_axis, State.emit_cal, State.runTick_g_axis, State.runTick_cal, if_neg hnot, State.tickGated_g_axis,
    gateAccepts_of_gateOff hoff]
  exact ⟨rfl, rfl⟩

/-- R184: a tick with no elapsed time and the gate on keeps the axis. -/
theorem State.tickGated_g_axis_of_dt_zero {s : State} (hon : s.cfg.GATE_EN = true) {raw : Sample} {now : Millis}
    (hdt : (s.tickPushed raw now).dt = 0) : (s.tickGated raw now).g_axis = s.g_axis := by
  rw [State.tickGated_g_axis, hdt, gateAccepts_of_dt_zero hon]
  rfl

/-- The elapsed time a tick sees reaches back N - 1 ticks (R164, R230). -/
theorem State.tickPushed_dt {s : State} (hN : 2 ≤ s.cfg.N) (raw : Sample) (now : Millis) :
    (s.tickPushed raw now).dt = now - s.hist.h_ts.getD (s.cfg.N - 2) 0 :=
  elapsed_pushRegs hN s.hist _ now

/-- Settles O48: the oldest timestamp left in the window is `now`. -/
theorem stalledClockFreezesAxis : Obligations.StalledClockFreezesAxis := by
  intro s raw level now g k hinv hc hon hstalled
  have hN : 2 ≤ s.cfg.N := hinv.legalRecord.n_range.1
  have hdt : (s.tickPushed raw now).dt = 0 := by
    rw [State.tickPushed_dt hN, hstalled _ (by omega)]
    exact BitVec.sub_self now
  refine ⟨_, exec_tick hc raw level now g k, ?_⟩
  rw [State.emit_g_axis, State.runTick_g_axis, State.tickGated_g_axis_of_dt_zero hon hdt]

end Sys2Proof.Machine
end

section
/-! R230's corner cases: the first TICK after reset. The filter and an unset range are seeded with the sample, the range
has no previous byte to test, and the history behind the new pair is zero (spec/46_tick_and_control.md). -/

namespace Sys2Proof.Machine

/-! ### The registers before the first TICK -/

theorem State.AtReset.unseeded {s : State} (h : s.AtReset) : s.flt.f_seeded = false := by
  obtain ⟨-, -, hseeded, -⟩ := h.f_rest
  exact hseeded

theorem State.AtReset.prev_invalid {s : State} (h : s.AtReset) : s.cal.c_prev_valid = false := h.c_prev.2

theorem State.AtReset.hist_eq {s : State} (h : s.AtReset) (hinv : s.Inv) : s.hist = clearedHist s.cfg :=
  hinv.hist.eq_clearedHist h.h_angle.2 h.h_ts.2

/-! ### The stages of the first TICK -/

section
variable {s : State} (hreset : s.AtReset) (raw : Sample)
include hreset

/-- An unset range becomes the filtered sample (R131). -/
theorem State.AtReset.tickObserved_of_unset (hunset : s.cfg.CAL_INIT = .UNSET) :
    (s.tickObserved raw).cal.c_min = (filterRegs s.cfg s.flt raw).f_stable
      ∧ (s.tickObserved raw).cal.c_max = (filterRegs s.cfg s.flt raw).f_stable :=
  observeRegs_of_unset (.inr hreset.prev_invalid) _ (hreset.c_unset hunset).1

/-- A preset range is widened by the filtered sample (R131). -/
theorem State.AtReset.tickObserved_of_preset {lo hi : Nat} (hpreset : s.cfg.CAL_INIT = .PRESET lo hi) :
    (s.tickObserved raw).cal.c_min.toNat = min lo (filterRegs s.cfg s.flt raw).f_stable.toNat
      ∧ (s.tickObserved raw).cal.c_max.toNat = max hi (filterRegs s.cfg s.flt raw).f_stable.toNat := by
  obtain ⟨hset, rfl, rfl⟩ := hreset.c_preset lo hi hpreset
  exact observeRegs_of_set (.inr hreset.prev_invalid) _ hset

/-- A range of one sample is degenerate (R143). -/
theorem State.AtReset.tickObserved_degen (hunset : s.cfg.CAL_INIT = .UNSET) :
    degenRange (s.tickObserved raw).cal = true := by
  obtain ⟨hmin, hmax⟩ := hreset.tickObserved_of_unset raw hunset
  exact degenRange_eq_true_iff.mpr (.inr (hmin.trans hmax.symm))

theorem State.AtReset.tickByte_eq_zero (hunset : s.cfg.CAL_INIT = .UNSET) : s.tickByte raw = 0 := by
  rw [State.tickByte, mappedByte, mapf_of_degen (hreset.tickObserved_degen raw hunset)]
  rfl

theorem State.AtReset.tickAngle_eq_zero (hunset : s.cfg.CAL_INIT = .UNSET) : s.tickAngle raw = 0 := by
  rw [State.tickAngle, mappedAngle, mapf_of_degen (hreset.tickObserved_degen raw hunset)]
  rfl

/-- The axis stays 0 whatever the gate decides: the byte is 0 too. -/
theorem State.AtReset.tickGated_g_axis (hunset : s.cfg.CAL_INIT = .UNSET) (now : Millis) :
    (s.tickGated raw now).g_axis = 0 := by
  rw [State.tickGated_g_axis, hreset.tickByte_eq_zero raw hunset, hreset.g_axis, ite_self]

variable (hinv : s.Inv)
include hinv

/-- One new pair before N - 1 zero pairs (R161). -/
theorem State.AtReset.pushRegs_eq (a : U9) (now : Millis) :
    pushRegs s.cfg s.hist a now =
      { h_angle := a :: List.replicate (s.cfg.N - 1) 0, h_ts := now :: List.replicate (s.cfg.N - 1) 0 } := by
  have hN : 0 < s.cfg.N := Nat.zero_lt_of_lt hinv.legalRecord.n_range.1
  rw [hreset.hist_eq hinv, pushRegs, clearedHist, shiftIn_replicate hN, shiftIn_replicate hN]

/-- The oldest timestamp is 0, so the elapsed time is `now` (R164). -/
theorem State.AtReset.tickPushed_dt (now : Millis) : (s.tickPushed raw now).dt = now := by
  rw [State.dt, State.tickPushed_cfg, State.tickPushed_hist, hreset.hist_eq hinv,
    elapsed_pushRegs_cleared hinv.legalRecord.n_range.1]

/-- The degenerate range is traced, then an elapsed time of 0 (R250). -/
theorem State.AtReset.tickConditions_eq (hunset : s.cfg.CAL_INIT = .UNSET) (now : Millis) :
    s.tickConditions raw now = .DEGEN_RANGE :: if now = 0 then [.DT_ZERO] else [] := by
  rw [State.tickConditions, hreset.tickObserved_degen raw hunset, Bool.or_true, condWhen_not_dvalidOf,
    hreset.tickPushed_dt raw hinv]
  rfl

end

/-- Settles O46: an unset range and a prefilled window are seeded with `raw`, and no action fires. -/
theorem firstTickSeedsFilterAndRange : Obligations.FirstTickSeedsFilterAndRange := by
  intro s raw level now g k hinv hc hreset hunset hprefill hquiet
  have hlegal : LegalRecord s.cfg := hinv.legalRecord
  have hnone : s.action level = .NONE := State.action_of_not_anyChord hlegal hquiet
  have hstable : (filterRegs s.cfg s.flt raw).f_stable = raw :=
    filterRegs_f_stable_prefill hlegal hinv.flt raw hreset.unseeded hprefill
  obtain ⟨hmin, hmax⟩ := hreset.tickObserved_of_unset raw hunset
  obtain ⟨t, hexec, hans, -, -, hflt, hcal, hhist, haxis, -⟩ := exec_tick_answered hc raw level now g k
  rw [hreset.tickConditions_eq raw hinv hunset] at hans
  rw [State.runTick_flt] at hflt
  rw [State.runTick_cal, hnone, if_neg (by decide)] at hcal
  rw [State.runTick_hist, hnone, if_neg (by decide), hreset.pushRegs_eq hinv,
    hreset.tickAngle_eq_zero raw hunset] at hhist
  rw [State.runTick_g_axis, hreset.tickGated_g_axis raw hunset] at haxis
  refine ⟨t, _, hexec, hans, ?stable, ?set, ?min, ?max, ?prev, ?valid, haxis, ?angles, ?times⟩
  case stable => rw [hflt, hstable]
  case set =>
    rw [hcal]
    exact (observeRegs_holds _ _ _).1
  case min => rw [hcal, hmin, hstable]
  case max => rw [hcal, hmax, hstable]
  case prev => rw [hcal, ← State.tickByte_eq_c_prev, hreset.tickByte_eq_zero raw hunset]
  case valid =>
    rw [hcal]
    rfl
  case angles =>
    have hN : 1 ≤ s.cfg.N := Nat.one_le_of_lt hlegal.n_range.1
    rw [hhist, ← List.replicate_succ, Nat.sub_add_cancel hN]
  case times => rw [hhist]

/-! ### Every record and every level -/

/-- With the latch clear, the mode becomes Keyboard by CHORD_KB without CHORD_GP (R193, R194). -/
theorem nextMode_modeAction_eq_Keyboard_iff (c : Chords) :
    nextMode (modeAction c false) .Gamepad = .Keyboard ↔ c.toKeyboard = true ∧ c.toGamepad = false := by
  obtain ⟨gp, kb, cal⟩ := c
  revert gp kb cal
  decide

theorem State.AtReset.nextMode_eq_Keyboard_iff {s : State} (hreset : s.AtReset) (hlegal : LegalRecord s.cfg)
    (level : Level) : nextMode (s.action level) s.mode.m_mode = .Keyboard ↔
      ChordPressed level s.cfg.CHORD_KB ∧ ¬ ChordPressed level s.cfg.CHORD_GP := by
  rw [State.action, hreset.m_latch, hreset.m_mode, nextMode_modeAction_eq_Keyboard_iff,
    chordsOf_toKeyboard_iff hlegal, ← chordsOf_toGamepad_iff hlegal, Bool.not_eq_true]

/-- Settles O53: the registers of the first TICK, by whether Calibrate fires. -/
theorem firstTickFollowsRecordAndChord : Obligations.FirstTickFollowsRecordAndChord := by
  intro s raw level now g k calibrates hinv hc hreset hcalibrates
  have hlegal : LegalRecord s.cfg := hinv.legalRecord
  have hfires : s.action level = .CAL ↔ calibrates = true := by
    rw [State.action_eq_CAL_iff hlegal, hcalibrates, hreset.m_latch]
    tauto
  obtain ⟨t, hexec, -, -, -, hflt, hcal, hhist, haxis, hmode⟩ := exec_tick_answered hc raw level now g k
  rw [State.runTick_cal, ← hflt] at hcal
  rw [State.runTick_flt] at hflt
  rw [State.runTick_hist] at hhist
  rw [State.runTick_g_axis] at haxis
  rw [State.runTick_mode] at hmode
  refine ⟨t, hexec, ?seeded, fun hw => ?prefill, fun hw => ?zerofill, ?set, fun hno => ?range, fun hyes => ?calibrated,
    fun hunset => ?axisUnset, fun hon hnow => ?axisGated, ?latch, ?mode⟩
  case seeded =>
    rw [hflt]
    rfl
  case prefill => rw [hflt, filterRegs_f_stable_prefill hlegal hinv.flt raw hreset.unseeded hw]
  case zerofill => rw [hflt, filterRegs_f_stable_zerofill hlegal hinv.flt raw hreset.unseeded hw]
  case set =>
    rw [hcal]
    split
    · rfl
    · exact (observeRegs_holds _ _ _).1
  case range =>
    have hnot : s.action level ≠ .CAL := fun h => Bool.noConfusion (hno.symm.trans (hfires.mp h))
    rw [if_neg hnot] at hcal
    rw [if_neg hnot, hreset.pushRegs_eq hinv] at hhist
    rw [hcal, hhist, hflt]
    exact ⟨hreset.tickObserved_of_unset raw, fun _ _ => hreset.tickObserved_of_preset raw, rfl, rfl, rfl⟩
  case calibrated =>
    rw [if_pos (hfires.mpr hyes)] at hcal hhist
    rw [hcal, hhist]
    exact ⟨rfl, rfl, rfl⟩
  case axisUnset => rw [haxis, hreset.tickGated_g_axis raw hunset]
  case axisGated =>
    rw [haxis, State.tickGated_g_axis_of_dt_zero hon ((hreset.tickPushed_dt raw hinv now).trans hnow), hreset.g_axis]
  case latch => rw [hmode, nextLatch_eq_anyChord, anyChord_chordsOf_iff hlegal]
  case mode => rw [hmode, hreset.nextMode_eq_Keyboard_iff hlegal]

end Sys2Proof.Machine
end
